-- ==== Sys2Proof/Word.lean ====
section
/-! DEFINITION. The plain containers of the model: bytes, the four lanes, the four heater zones, and
four things of one kind held together (00_scope.md section 5.1; 04 R64). -/

namespace Sys2Proof

/-- One byte of the station link. -/
abbrev Byte := BitVec 8

/-- A lane across the web, A nearest the operator side (00_scope.md section 5.1). -/
inductive Lane where
  | a | b | c | d
  deriving DecidableEq, Repr

/-- A platen heater zone, numbered 0 to 3 (00_scope.md section 6). -/
inductive Zone where
  | z0 | z1 | z2 | z3
  deriving DecidableEq, Repr

/-- Four things of one kind, one to a lane or one to a zone. -/
structure Quad (α : Type) where
  q0 : α
  q1 : α
  q2 : α
  q3 : α
  deriving DecidableEq, Repr

namespace Lane

/-- The lanes in lane order, A first. -/
def all : List Lane := [.a, .b, .c, .d]

/-- The lane's number, A being 0 (00_scope.md section 5.1). -/
def number : Lane → Nat
  | .a => 0
  | .b => 1
  | .c => 2
  | .d => 3

end Lane

namespace Zone

/-- The zones in ascending order. -/
def all : List Zone := [.z0, .z1, .z2, .z3]

/-- The zone's number. -/
def number : Zone → Nat
  | .z0 => 0
  | .z1 => 1
  | .z2 => 2
  | .z3 => 3

end Zone

namespace Quad

variable {α β : Type}

/-- The same thing four times. -/
def const (x : α) : Quad α := ⟨x, x, x, x⟩

/-- The thing of one lane. -/
def lane (q : Quad α) : Lane → α
  | .a => q.q0
  | .b => q.q1
  | .c => q.q2
  | .d => q.q3

/-- The thing of one lane replaced. -/
def setLane (q : Quad α) (l : Lane) (x : α) : Quad α :=
  match l with
  | .a => { q with q0 := x }
  | .b => { q with q1 := x }
  | .c => { q with q2 := x }
  | .d => { q with q3 := x }

/-- The thing of one zone. -/
def zone (q : Quad α) : Zone → α
  | .z0 => q.q0
  | .z1 => q.q1
  | .z2 => q.q2
  | .z3 => q.q3

/-- A function on each of the four. -/
def map (f : α → β) (q : Quad α) : Quad β := ⟨f q.q0, f q.q1, f q.q2, f q.q3⟩

/-- One thing for each lane. -/
def ofLanes (f : Lane → α) : Quad α := ⟨f .a, f .b, f .c, f .d⟩

/-- One thing for each zone. -/
def ofZones (f : Zone → α) : Quad α := ⟨f .z0, f .z1, f .z2, f .z3⟩

/-- The four in order. -/
def toList (q : Quad α) : List α := [q.q0, q.q1, q.q2, q.q3]

end Quad

end Sys2Proof
end

