-- ==== Sys2Proof/Syntax.lean ====
section
/-! DEFINITION. The commands of the part: one constructor for each row of spec/opcode_table.json.

A request of the station link carries its payload as the bytes of its frame (11 R187, R188), so that a
length that does not fit its kind is a command like any other. An edge on a machine pin carries in `after`
the milliseconds that pass before it (assumption 3), and the levels it brings (assumption 4). An edge on INDEX
carries also the request, if any, that is taken between the two blocks it reaches (assumption 24). -/

namespace Sys2Proof

/-- Whether a request frame names the part's own address or the broadcast address (10 R168, R169). -/
inductive Dest where
  | unicast
  | broadcast
  deriving DecidableEq, Repr

/-- The levels of the two press switches, PRESS-OPEN and PRESS-CLOSED (05 R82). -/
structure Switches where
  openSw : Bool
  closedSw : Bool
  deriving DecidableEq, Repr

/-- A timed output of the Discharge Unit: a lane's reject flap or the row sample output (08 R144, R146). -/
inductive GateOutput where
  | flap (l : Lane)
  | sample
  deriving DecidableEq, Repr

/-- The requests about a record or a slot of the track, which the rules let fall between an advance and the
final write of the stroke that the same index ends (03 R60, R61, R63; 05 R97). -/
inductive TrackRequest where
  | reportFill (p : List Byte)
  | reportPlace (p : List Byte)
  | reportVision (p : List Byte)
  | lookup (p : List Byte)
  | markCard (p : List Byte)
  | markWindow (p : List Byte)
  | readWindow (p : List Byte)
  deriving DecidableEq, Repr

/-- An edge on INDEX: the milliseconds that pass before it, and the request taken between the advance and the
press's answer to it, if there is one (assumptions 3 and 24). -/
structure IndexEdge where
  after : Nat
  between : Option TrackRequest
  deriving DecidableEq, Repr

/-- The commands. Every constructor is one row of spec/opcode_table.json. -/
inductive Instr where
  /- requests of the station link, in the order of the table -/
  | identify (p : List Byte)
  | status (p : List Byte)
  | clearFlags (p : List Byte)
  | setNoticeMask (p : List Byte)
  | fetchNotice (p : List Byte)
  | configureLine (p : List Byte)
  | readLine (p : List Byte)
  | writeRecipe (p : List Byte)
  | readRecipe (p : List Byte)
  | assignRecipe (p : List Byte)
  | writeRule (p : List Byte)
  | readRule (p : List Byte)
  | advertiseGrades (p : List Byte)
  | restoreGrade (p : List Byte)
  | start (p : List Byte)
  | stop (dest : Dest) (p : List Byte)
  | resume (p : List Byte)
  | softReset (dest : Dest) (p : List Byte)
  | reportFill (p : List Byte)
  | reportPlace (p : List Byte)
  | reportVision (p : List Byte)
  | lookup (p : List Byte)
  | markCard (p : List Byte)
  | setWindow (p : List Byte)
  | markWindow (p : List Byte)
  | readWindow (p : List Byte)
  | nextChunk (p : List Byte)
  | abort (p : List Byte)
  | setReturnSize (p : List Byte)
  | latchCounts (dest : Dest) (p : List Byte)
  | readCounts (p : List Byte)
  | clearCounts (p : List Byte)
  | storeSettings (p : List Byte)
  | recallSettings (p : List Byte)
  /- the other judgements of a frame, and the receiver -/
  | unknownKind (kind : Byte)
  | frameCrcDiscard
  | foreignFrame
  | broadcastIgnored
  | frameOverrunDiscard (b : Byte)
  | lineIdleArmed
  | frameGapTimeout
  | replyAbandoned (b : Byte)
  | replySent
  /- the machine and the timers -/
  | indexEvent (edge : IndexEdge)
  | warnEdge (after : Nat) (level : Bool)
  | settleExpiry
  | closedConfirmation (after : Nat) (sw : Switches)
  | closeTimeout
  | openConfirmation (after : Nat) (sw : Switches)
  | openTimeout
  | samplingTick (codes : Quad (BitVec 12)) (px : BitVec 10)
  | predictedDeadline
  | stall
  | restoreIdleSignal
  | primeEnd
  | flapDue (o : GateOutput)
  | flapPulseEnd (o : GateOutput)
  | storeComplete
  /- supply and reset -/
  | powerOn
  | powerLoss
  | pinReset
  | resetRelease
  | settingsLoad (address : BitVec 5) (rate : BitVec 2)
  | linkByteReceived (b : Byte)
  | replyBegin
  deriving DecidableEq, Repr

/-- The command that a request about the track is by itself. -/
def TrackRequest.instr : TrackRequest → Instr
  | .reportFill p => .reportFill p
  | .reportPlace p => .reportPlace p
  | .reportVision p => .reportVision p
  | .lookup p => .lookup p
  | .markCard p => .markCard p
  | .markWindow p => .markWindow p
  | .readWindow p => .readWindow p

end Sys2Proof
end

