-- ==== Sys2Proof/Machine/Types.lean ====
section
/-! DEFINITION. The quantities the manual names and the records the blocks hold, each enumeration with its
code (11 section 11.8) where the link carries it. -/

namespace Sys2Proof.Machine

/-! ## Enumerations -/

/-- The status of a reply (11 section 11.3). -/
inductive Status where
  | ok | clamped | already | busy | mode | range | conflict | unknown | early | late | repeated
  | empty | config | fault | kind | length | checksum
  deriving DecidableEq, Repr

/-- The mode (09 R153). -/
inductive Mode where
  | idle | starting | run | halted
  deriving DecidableEq, Repr

/-- The halt cause (09 R153). -/
inductive HaltCause where
  | none | pressOpen | pressClose | indexClosed
  deriving DecidableEq, Repr

/-- The press state (05 section 5.1); `opened` is OPEN. -/
inductive PressState where
  | opened | settling | closing | dwell | releasing | stuck
  deriving DecidableEq, Repr

/-- Why a stroke ended (05 section 5.5). -/
inductive EndCause where
  | complete | dwellLimit | warning | predicted | stop | index | closeTimeout
  deriving DecidableEq, Repr

/-- The seal result of one lane (04 R80, R81). -/
inductive Verdict where
  | bonded | underbond | scorch | sensor
  deriving DecidableEq, Repr

/-- The rhythm state (06 section 6.3). -/
inductive RhythmState where
  | stopped | acquiring | locked | slipping
  deriving DecidableEq, Repr

/-- The cause of a RHYTHM event (06 R115). -/
inductive RhythmCause where
  | index | stall | grade
  deriving DecidableEq, Repr

/-- The judgement of an index (06 R107); `inside` is IN. -/
inductive Judgement where
  | none | inside | short | long | noWarning
  deriving DecidableEq, Repr

/-- A speed grade, G1 the fastest (07 R120). -/
inductive Grade where
  | g1 | g2 | g3 | g4
  deriving DecidableEq, Repr

/-- The cause of a GRADE event (07 R134). -/
inductive GradeCause where
  | downgrade | limit | recover | restore | conflict
  deriving DecidableEq, Repr

/-- The source of a restore (07 R134). -/
inductive RestoreSource where
  | none | request | stop | idle | advertise | assign
  deriving DecidableEq, Repr

/-- The cause of a MODE event (09 R165). -/
inductive ModeCause where
  | started | startFailed | halted | resumed | stopped
  deriving DecidableEq, Repr

/-- The detail of a MODE notice (09 R165). -/
inductive ModeDetail where
  | none
  | halt (c : HaltCause)
  | zone (z : Zone)
  | press
  deriving DecidableEq, Repr

/-- A zone's health (04 R66). -/
inductive Health where
  | healthy | faulted
  deriving DecidableEq, Repr

/-- The kind of a ZONE event (04 R68). -/
inductive ZoneKind where
  | openCircuit | shorted | recovered
  deriving DecidableEq, Repr

/-- The class of a zone code (04 R65). -/
inductive SampleClass where
  | valid | openCircuit | shorted
  deriving DecidableEq, Repr

/-- The outcome of a discharged slot (08 R138); a NONE slot has none. -/
inductive Fate where
  | pass | reject | sample
  deriving DecidableEq, Repr

/-- The sixteen marks (02 section 2.4). -/
inductive MarkKind where
  | fillShort | fillOver | fillMissing | cardMissing | regOffset | placeMissing | visionFail
  | visionMissing | scorch | dwellCut | notSealed | sensor | cadence | indexClosed | operator
  | underbond
  deriving DecidableEq, Repr

/-- What the marking procedure did (02 R27); `none` when no mark was called for (03 R57). -/
inductive MarkResult where
  | none | appended | heldAlready | overflowed
  deriving DecidableEq, Repr

/-- The cause of a STORE event (10 R183, R185). -/
inductive StoreCause where
  | stored | lost
  deriving DecidableEq, Repr

/-- The outcome of a stroke for the Grade Selector (05 R100). -/
inductive StrokeOutcome where
  | failing | clean | neither
  deriving DecidableEq, Repr

/-- The twelve event flags (10 section 10.4). -/
inductive EventFlag where
  | advance | stroke | rhythm | grade | mode | zone | deadline | store | linkError | queueOverflow
  | gradeConflict | sealLimit
  deriving DecidableEq, Repr

/-! ## Settings -/

/-- A set of grades, member n at bit n (11 R188). -/
abbrev GradeSet := BitVec 4

/-- A set of lanes, A at bit 0 (11 section 11.4). -/
abbrev LaneSet := BitVec 4

/-- A card's serial (02 R25). -/
abbrev Serial := BitVec 16

/-- What an UNKNOWN slot receives at the gate (01 section 1.1, field 27). -/
inductive UnknownPolicy where
  | reject | pass
  deriving DecidableEq, Repr

/-- The line configuration record, fields 0 to 27 in order (01 section 1.1). -/
structure LineConfig where
  lanes : LaneSet
  pPlace : Nat
  pSeal : Nat
  pVision : Nat
  pGate : Nat
  dFill : Nat
  dPlace : Nat
  dVision : Nat
  zoneMap : Quad Zone
  periods : Quad Nat
  tol : Nat
  lockCount : Nat
  slipLimit : Nat
  releaseLead : Nat
  settle : Nat
  closeTimeout : Nat
  openTimeout : Nat
  unlockedDwellCap : Nat
  warnInUse : Bool
  strikeLimit : Nat
  cleanRun : Nat
  recoverRun : Nat
  restoreIdle : Nat
  gateDelay : Nat
  gatePulse : Nat
  sampleDelay : Nat
  samplePulse : Nat
  unknownPolicy : UnknownPolicy
  deriving DecidableEq, Repr

/-- A recipe (01 section 1.4). -/
structure Recipe where
  valid : Bool
  tAct : Nat
  pRef : Nat
  doseMin : Nat
  doseTarget : Nat
  doseMax : Nat
  dwellMin : Nat
  dwellMax : Nat
  items : Nat
  regTol : Nat
  grades : GradeSet
  deriving DecidableEq, Repr

/-- The mark condition of a disposition rule (08 R139). -/
inductive MarkCondition where
  | any
  | none
  | holds (k : MarkKind)
  deriving DecidableEq, Repr

/-- A disposition rule; an absent recipe or lane is ANY (08 R140). -/
structure Rule where
  active : Bool
  recipe : Option (Fin 16)
  lane : Option Lane
  mark : MarkCondition
  fate : Fate
  deriving DecidableEq, Repr

/-- The working settings (10 section 10.7). -/
structure Settings where
  line : LineConfig
  recipes : Vector Recipe 16
  assigned : Quad (Fin 16)
  rules : Vector Rule 8
  noticeMask : BitVec 8
  returnSize : Nat
  deriving DecidableEq, Repr

/-! ## The card track -/

/-- The place part of a card record (02 section 2.2); the offset in 0.1 mm. -/
structure PlacePart where
  present : Bool
  offset : Int
  deriving DecidableEq, Repr

/-- The seal part of a card record (02 R23); `final` carries dose and dwell samples. -/
inductive SealPart where
  | pressing
  | final (verdict : Verdict) (cause : EndCause) (dose dwell : Nat)
  deriving DecidableEq, Repr

/-- The vision part of a card record (02 section 2.2); `failed` is the result FAIL. -/
structure VisionPart where
  failed : Bool
  defect : Byte
  deriving DecidableEq, Repr

/-- A card record (02 section 2.2). Its lane and position are those of the slot that holds it
(02 R21; assumption 13). -/
structure CardRecord where
  serial : Serial
  recipe : Fin 16
  fill : Option Nat
  place : Option PlacePart
  sealPart : Option SealPart
  vision : Option VisionPart
  marks : List MarkKind
  overflow : Bool
  deriving DecidableEq, Repr

/-- A slot of the track (02 R19). -/
inductive Slot where
  | record (c : CardRecord)
  | unknown
  | none
  deriving DecidableEq, Repr

/-- One position of the track: the slots of lanes A to D. -/
abbrev Row := Quad Slot

/-- The track window (02 R41). -/
structure Window where
  firstPos : Nat
  lastPos : Nat
  firstLane : Nat
  lastLane : Nat
  deriving DecidableEq, Repr

/-- The Track Unit: position 0 is the head of `rows` (02 R19, R25, R36, R42). -/
structure TrackState where
  rows : List Row
  nextSerial : Serial
  advances : BitVec 32
  window : Window
  deriving DecidableEq, Repr

/-! ## The Zone Sampler -/

/-- One zone (04 R66, R67). -/
structure ZoneRecord where
  health : Health
  held : BitVec 12
  recovery : Nat
  deriving DecidableEq, Repr

/-- The Zone Sampler (04 R64, R70). -/
structure ZoneState where
  zone : Quad ZoneRecord
  pressure : BitVec 10
  nextTick : Nat
  deriving DecidableEq, Repr

/-! ## The Press Sequencer -/

/-- One participating lane of a stroke (05 R87). -/
structure StrokeLane where
  lane : Lane
  serial : Serial
  zone : Zone
  tAct : Nat
  pRef : Nat
  doseMin : Nat
  doseTarget : Nat
  doseMax : Nat
  dwellMin : Nat
  dwellMax : Nat
  blind : Bool
  dose : Nat
  deriving DecidableEq, Repr

/-- The stroke in flight (05 R87). -/
structure StrokeContext where
  number : BitVec 32
  startLocked : Bool
  n : Nat
  nLimit : Nat
  lanes : List StrokeLane
  deriving DecidableEq, Repr

/-- The Press Sequencer (05, opening). A running timer holds the moment it runs out. -/
structure PressUnit where
  state : PressState
  pressClose : Bool
  settleDue : Option Nat
  closeDue : Option Nat
  openDue : Option Nat
  stroke : Option StrokeContext
  closeTimeouts : Nat
  strokes : BitVec 32
  deriving DecidableEq, Repr

/-! ## The Rhythm Monitor and the Grade Selector -/

/-- The Rhythm Monitor (06, opening). A counting timer holds the moment at which it stood at 0. -/
structure RhythmUnit where
  state : RhythmState
  lastEdge : Option Nat
  lastInterval : Nat
  good : Nat
  slip : Nat
  warnSeen : Bool
  stallStart : Nat
  restoreStart : Option Nat
  signalGiven : Bool
  deadline : Option Nat
  deriving DecidableEq, Repr

/-- The Grade Selector (07, opening); `lines` are the outputs GRADE[1:0]. -/
structure GradeUnit where
  capability : GradeSet
  common : GradeSet
  floor : Grade
  advised : Grade
  strike : Nat
  cleanRun : Nat
  recovery : Nat
  lines : BitVec 2
  deriving DecidableEq, Repr

/-! ## The Discharge Unit -/

/-- A flap or the row sample output: its pending slot's due time and its pulse's end time (08 R144). -/
structure Flap where
  pending : Option Nat
  pulse : Option Nat
  deriving DecidableEq, Repr

/-- The eight counts of one lane (08 R148). -/
structure LaneCounts where
  entered : BitVec 32
  discharged : BitVec 32
  passed : BitVec 32
  rejected : BitVec 32
  sampled : BitVec 32
  purged : BitVec 32
  unknownRejected : BitVec 32
  unknownPassed : BitVec 32
  deriving DecidableEq, Repr

/-- The counter bank, 51 counts (08 R148). -/
structure CounterBank where
  lanes : Quad LaneCounts
  marks : Vector (BitVec 32) 16
  strokes : BitVec 32
  failing : BitVec 32
  downgrades : BitVec 32
  deriving DecidableEq, Repr

/-- The count snapshot (08 R149). -/
structure CountSnapshot where
  bank : CounterBank
  advances : BitVec 32
  deriving DecidableEq, Repr

/-- The Discharge Unit (08, opening). -/
structure DischargeUnit where
  flaps : Quad Flap
  sample : Flap
  bank : CounterBank
  snapshot : Option CountSnapshot
  deriving DecidableEq, Repr

/-! ## Notices -/

/-- What an ADVANCE notice says of one discharged slot (02 R38). -/
inductive LeftSlot where
  | record (serial : Serial) (fate : Fate)
  | unknown (fate : Fate)
  | none
  deriving DecidableEq, Repr

/-- What a STROKE notice says of one participating lane (05 R99). -/
structure StrokeReport where
  applied : Bool
  serial : Serial
  dose : Nat
  verdict : Verdict
  deriving DecidableEq, Repr

/-- A notice (10 R173; 11 section 11.7). -/
inductive Notice where
  | advance (count : BitVec 32) (entered : Quad (Option Serial)) (left : Quad LeftSlot)
  | stroke (number : BitVec 32) (cause : EndCause) (n : Nat) (startLocked : Bool)
      (lanes : Quad (Option StrokeReport))
  | rhythm (before after : RhythmState) (cause : RhythmCause) (judgement : Judgement)
      (interval period : Nat) (advised : Grade)
  | grade (cause : GradeCause) (source : RestoreSource) (floorBefore floorAfter : Grade)
      (advisedBefore advisedAfter : Grade) (common : GradeSet) (strike : Nat)
  | mode (before after : Mode) (cause : ModeCause) (detail : ModeDetail) (advances : BitVec 32)
  | zone (zone : Zone) (health : Health) (kind : ZoneKind) (code held : BitVec 12)
  | deadline (serial : Serial) (lane : Lane) (position : Nat) (mark : MarkKind) (stored : Bool)
  | store (cause : StoreCause)
  deriving DecidableEq, Repr

/-- The Notice Queue, oldest notice first, each with its number (10 R173). -/
structure NoticeUnit where
  queue : List (Byte × Notice)
  overflow : Bool
  nextNumber : Byte
  flags : BitVec 12
  deriving DecidableEq, Repr

/-! ## The Link Port and the Settings Store -/

/-- The receiver's state (10 R167). -/
inductive Receiver where
  | hunt | armed | frame
  deriving DecidableEq, Repr

/-- A reply: its kind byte and its payload, the status first (10 R171). -/
structure Reply where
  kind : Byte
  payload : List Byte
  deriving DecidableEq, Repr

/-- The reply being sent (10 R171, R172): none, prepared and not begun, or on the pair. -/
inductive ReplyState where
  | none
  | awaiting (r : Reply)
  | sending (r : Reply)
  deriving DecidableEq, Repr

/-- One entry of a window snapshot (10 R180). -/
structure WindowEntry where
  position : Nat
  lane : Lane
  slot : Slot
  deriving DecidableEq, Repr

/-- A window snapshot (10 R180): its total is the number of entries. -/
structure WindowSnapshot where
  entries : List WindowEntry
  cursor : Nat
  advances : BitVec 32
  deriving DecidableEq, Repr

/-- The Link Port (10, opening). -/
structure LinkUnit where
  receiver : Receiver
  buffer : List Byte
  reply : ReplyState
  window : Option WindowSnapshot
  address : Byte
  rate : BitVec 2
  deriving DecidableEq, Repr

/-- The Settings Store beside the working settings: the stored copy, none while its check value does not
agree with its contents, `store_valid`, and whether a store is in progress (10 R183, R185). -/
structure StoreUnit where
  stored : Option Settings
  valid : Bool
  busy : Bool
  deriving DecidableEq, Repr

/-- The Mode Controller (09, opening); `interlock` is the output INTERLOCK. -/
structure ModeUnit where
  mode : Mode
  haltCause : HaltCause
  primeDue : Option Nat
  interlock : Bool
  deriving DecidableEq, Repr

/-- The levels of the input pins that rules read as conditions. -/
structure Pins where
  switches : Switches
  warn : Bool
  deriving DecidableEq, Repr

/-- Which sequence a settings load belongs to (09 R162, R163). -/
inductive ResetKind where
  | powerOn
  | pin
  deriving DecidableEq, Repr

/-- Supply and reset: off, held by the RESET pin, loading the settings, or past the sequence's end. -/
inductive Phase where
  | off
  | held
  | loading (k : ResetKind)
  | running
  deriving DecidableEq, Repr

end Sys2Proof.Machine
end

