-- ==== Sys2Proof/Machine/Defaults.lean ====
section
/-! DEFINITION. The values a settings load installs when it finds the stored copy bad, and the values the
blocks take at the end of a power-on sequence (each chapter's values after reset). -/

namespace Sys2Proof.Machine

/-- The line configuration's defaults (01 section 1.1). -/
def defaultLine : LineConfig where
  lanes := 0#4
  pPlace := 2
  pSeal := 5
  pVision := 8
  pGate := 11
  dFill := 4
  dPlace := 5
  dVision := 11
  zoneMap := ⟨.z0, .z1, .z2, .z3⟩
  periods := ⟨1000, 1250, 1667, 2500⟩
  tol := 5
  lockCount := 4
  slipLimit := 3
  releaseLead := 60
  settle := 40
  closeTimeout := 150
  openTimeout := 200
  unlockedDwellCap := 60
  warnInUse := false
  strikeLimit := 5
  cleanRun := 20
  recoverRun := 200
  restoreIdle := 60
  gateDelay := 120
  gatePulse := 80
  sampleDelay := 150
  samplePulse := 100
  unknownPolicy := .reject

/-- A recipe's defaults after a settings loss (01 section 1.4). -/
def defaultRecipe : Recipe where
  valid := false
  tAct := 560
  pRef := 400
  doseMin := 7000
  doseTarget := 8000
  doseMax := 12000
  dwellMin := 20
  dwellMax := 120
  items := 0
  regTol := 20
  grades := 0xF#4

/-- A disposition rule's defaults (08 R140). -/
def defaultRule : Rule where
  active := false
  recipe := none
  lane := none
  mark := .any
  fate := .reject

/-- The working settings after a settings loss (10 R185). -/
def defaultSettings : Settings where
  line := defaultLine
  recipes := Vector.replicate 16 defaultRecipe
  assigned := Quad.const 0
  rules := Vector.replicate 8 defaultRule
  noticeMask := 0xFF#8
  returnSize := 4

/-- A position of the track that holds UNKNOWN in every lane. -/
def unknownRow : Row := Quad.const .unknown

/-- A track of `p_gate + 1` positions, every slot UNKNOWN (02 R19). -/
def unknownTrack (pGate : Nat) : List Row := List.replicate (pGate + 1) unknownRow

/-- The window over the whole track (02 R42). -/
def wholeWindow (pGate : Nat) : Window := ⟨0, pGate, 0, 3⟩

/-- A zone after power-on and pin reset (04 R71). -/
def freshZone : ZoneRecord := ⟨.healthy, 0#12, 0⟩

/-- The Zone Sampler at IDLE entry: the first tick is 4 ms later (04 R71). -/
def freshZones (now : Nat) : ZoneState := ⟨Quad.const freshZone, 0#10, now + 4⟩

/-- The Rhythm Monitor at IDLE entry (06 R119). -/
def freshRhythm (now : Nat) : RhythmUnit where
  state := .stopped
  lastEdge := none
  lastInterval := 0
  good := 0
  slip := 0
  warnSeen := false
  stallStart := now
  restoreStart := some now
  signalGiven := false
  deadline := none

/-- A flap with nothing pending and no pulse (08 R152). -/
def freshFlap : Flap := ⟨none, none⟩

/-- The counts of a lane at zero (08 R152). -/
def zeroLaneCounts : LaneCounts := ⟨0#32, 0#32, 0#32, 0#32, 0#32, 0#32, 0#32, 0#32⟩

/-- The counter bank at zero (08 R152). -/
def zeroBank : CounterBank := ⟨Quad.const zeroLaneCounts, Vector.replicate 16 0#32, 0#32, 0#32, 0#32⟩

/-- The Notice Queue emptied (10 R186). -/
def emptyNotices : NoticeUnit := ⟨[], false, 0#8, 0#12⟩

/-- The Mode Controller in IDLE (09 R165). -/
def idleMode : ModeUnit := ⟨.idle, .none, none, false⟩

/-- The station address of the straps: 0 is taken as 31 (10 R166). -/
def strapAddress (a : BitVec 5) : Byte := if a = 0#5 then 31#8 else a.setWidth 8

end Sys2Proof.Machine
end

