-- ==== Sys2Proof/Decode.lean ====
section
/-! DEFINITION. The decoders: the fixed decodeTableWord, which no row of the table gives bits to, and the
part's own decoder of frames (10 R168 to R170, 11 R187), with the frame it builds for a reply (10 R171). -/

namespace Sys2Proof

/-! ## Big-endian fields (00_scope.md section 5.4) -/

/-- A number as one byte. -/
def byte (n : Nat) : Byte := BitVec.ofNat 8 n

/-- A number as two bytes, high byte first. -/
def be16 (n : Nat) : List Byte := [byte (n / 256), byte n]

/-- A number as four bytes, high byte first. -/
def be32 (n : Nat) : List Byte := [byte (n / 16777216), byte (n / 65536), byte (n / 256), byte n]

/-- The number that bytes spell, high byte first. -/
def beNat (bs : List Byte) : Nat := bs.foldl (fun acc b => acc * 256 + b.toNat) 0

/-! ## The frame check (10 R168) -/

/-- One of the eight shifts of a byte. -/
def crcShift (r : BitVec 16) : BitVec 16 :=
  if r.msb then (r <<< 1) ^^^ 0x1021#16 else r <<< 1

/-- One byte combined into the register. -/
def crcByte (r : BitVec 16) (b : Byte) : BitVec 16 :=
  let r := r ^^^ ((b.setWidth 16) <<< 8)
  crcShift (crcShift (crcShift (crcShift (crcShift (crcShift (crcShift (crcShift r)))))))

/-- The CRC of a run of bytes: register from FFFFh, polynomial 1021h, nothing reversed (10 R168). -/
def crc16 (bs : List Byte) : BitVec 16 := bs.foldl crcByte 0xFFFF#16

/-- The bytes of a frame (11 section 11.1). -/
def frameBytes (address kind : Byte) (payload : List Byte) : List Byte :=
  let body := address :: kind :: byte payload.length :: payload
  0xA5#8 :: (body ++ be16 (crc16 body).toNat)

/-- Whether the receive buffer holds 4 + length + 2 bytes (10 R168). -/
def frameComplete (buf : List Byte) : Bool :=
  match buf with
  | _ :: _ :: _ :: len :: rest => decide (rest.length = len.toNat + 2)
  | _ => false

/-! ## Kinds and fitting lengths (11 R187) -/

/-- Bytes of field n of the line configuration (11 section 11.4). -/
def lineFieldSize (n : Nat) : Nat :=
  if n = 8 then 4
  else if n = 9 then 8
  else if n = 13 || n = 14 || n = 15 || n = 16 || n = 21 || n = 22 || n = 23 || n = 24 || n = 25 || n = 26 then 2
  else 1

/-- The fitting length of a CONFIGURE LINE whose presence mask is `mask`: mask positions 28 and above take
no bytes (10 R170). -/
def configureLength (mask : Nat) : Nat :=
  4 + (((List.range 28).filter (fun n => mask.testBit n)).map lineFieldSize).sum

/-- Whether a payload's length fits its kind (11 R187); false for a kind the part does not know. -/
def fitsKind (kind : Byte) (p : List Byte) : Bool :=
  match kind.toNat with
  | 0x01 => p.length == 0
  | 0x02 => p.length == 0
  | 0x03 => p.length == 2
  | 0x04 => p.length == 1
  | 0x05 => p.length == 0
  | 0x10 => decide (4 ≤ p.length) && p.length == configureLength (beNat (p.take 4))
  | 0x11 => p.length == 0
  | 0x12 => p.length == 19
  | 0x13 => p.length == 1
  | 0x14 => p.length == 2
  | 0x15 => p.length == 6
  | 0x16 => p.length == 1
  | 0x17 => p.length == 1
  | 0x18 => p.length == 0
  | 0x20 => p.length == 0
  | 0x21 => p.length == 0
  | 0x22 => p.length == 0
  | 0x23 => p.length == 0
  | 0x30 => p.length == 3
  | 0x31 => p.length == 5
  | 0x32 => p.length == 4
  | 0x33 => p.length == 2
  | 0x34 => p.length == 2
  | 0x40 => p.length == 4
  | 0x41 => p.length == 0
  | 0x42 => p.length == 0
  | 0x43 => p.length == 0
  | 0x44 => p.length == 0
  | 0x45 => p.length == 1
  | 0x50 => p.length == 0
  | 0x51 => p.length == 0
  | 0x52 => p.length == 0
  | 0x60 => p.length == 0
  | 0x61 => p.length == 0
  | _ => false

/-- The request that a kind byte and a payload spell; none for a kind the part does not know (11 R187). -/
def requestOf (dest : Dest) (kind : Byte) (p : List Byte) : Option Instr :=
  match kind.toNat with
  | 0x01 => some (.identify p)
  | 0x02 => some (.status p)
  | 0x03 => some (.clearFlags p)
  | 0x04 => some (.setNoticeMask p)
  | 0x05 => some (.fetchNotice p)
  | 0x10 => some (.configureLine p)
  | 0x11 => some (.readLine p)
  | 0x12 => some (.writeRecipe p)
  | 0x13 => some (.readRecipe p)
  | 0x14 => some (.assignRecipe p)
  | 0x15 => some (.writeRule p)
  | 0x16 => some (.readRule p)
  | 0x17 => some (.advertiseGrades p)
  | 0x18 => some (.restoreGrade p)
  | 0x20 => some (.start p)
  | 0x21 => some (.stop dest p)
  | 0x22 => some (.resume p)
  | 0x23 => some (.softReset dest p)
  | 0x30 => some (.reportFill p)
  | 0x31 => some (.reportPlace p)
  | 0x32 => some (.reportVision p)
  | 0x33 => some (.lookup p)
  | 0x34 => some (.markCard p)
  | 0x40 => some (.setWindow p)
  | 0x41 => some (.markWindow p)
  | 0x42 => some (.readWindow p)
  | 0x43 => some (.nextChunk p)
  | 0x44 => some (.abort p)
  | 0x45 => some (.setReturnSize p)
  | 0x50 => some (.latchCounts dest p)
  | 0x51 => some (.readCounts p)
  | 0x52 => some (.clearCounts p)
  | 0x60 => some (.storeSettings p)
  | 0x61 => some (.recallSettings p)
  | _ => none

/-- Whether the part takes broadcasts of a kind: STOP, SOFT RESET and LATCH COUNTS (10 R169). -/
def broadcastKind (kind : Byte) : Bool :=
  kind == 0x21#8 || kind == 0x23#8 || kind == 0x50#8

/-- What a good frame addressed to the part asks (10 R170). -/
def dispatchFrame (kind : Byte) (p : List Byte) : Instr :=
  (requestOf .unicast kind p).getD (.unknownKind kind)

/-- What a good frame with address 0 asks (10 R169). -/
def broadcastFrame (kind : Byte) (p : List Byte) : Instr :=
  if broadcastKind kind && fitsKind kind p then (requestOf .broadcast kind p).getD .broadcastIgnored
  else .broadcastIgnored

/-- The judgement of a complete frame at the station address `own`: the CRC first, on every frame, then
the address (10 R168). -/
def judgeFrame (own : Byte) (frame : List Byte) : Instr :=
  match frame with
  | _ :: address :: kind :: len :: rest =>
    let payload := rest.take len.toNat
    let check := rest.drop len.toNat
    if beNat check = (crc16 (address :: kind :: len :: payload)).toNat then
      if address = own then dispatchFrame kind payload
      else if address = 0#8 then broadcastFrame kind payload
      else .foreignFrame
    else .frameCrcDiscard
  | _ => .frameCrcDiscard

/-- The inverse of the dispatch: destination, kind and payload of the frame a request travels in; none
for a command that is no request. -/
def requestParts (i : Instr) : Option (Dest × Byte × List Byte) :=
  match i with
  | .identify p => some (.unicast, 0x01#8, p)
  | .status p => some (.unicast, 0x02#8, p)
  | .clearFlags p => some (.unicast, 0x03#8, p)
  | .setNoticeMask p => some (.unicast, 0x04#8, p)
  | .fetchNotice p => some (.unicast, 0x05#8, p)
  | .configureLine p => some (.unicast, 0x10#8, p)
  | .readLine p => some (.unicast, 0x11#8, p)
  | .writeRecipe p => some (.unicast, 0x12#8, p)
  | .readRecipe p => some (.unicast, 0x13#8, p)
  | .assignRecipe p => some (.unicast, 0x14#8, p)
  | .writeRule p => some (.unicast, 0x15#8, p)
  | .readRule p => some (.unicast, 0x16#8, p)
  | .advertiseGrades p => some (.unicast, 0x17#8, p)
  | .restoreGrade p => some (.unicast, 0x18#8, p)
  | .start p => some (.unicast, 0x20#8, p)
  | .stop dest p => some (dest, 0x21#8, p)
  | .resume p => some (.unicast, 0x22#8, p)
  | .softReset dest p => some (dest, 0x23#8, p)
  | .reportFill p => some (.unicast, 0x30#8, p)
  | .reportPlace p => some (.unicast, 0x31#8, p)
  | .reportVision p => some (.unicast, 0x32#8, p)
  | .lookup p => some (.unicast, 0x33#8, p)
  | .markCard p => some (.unicast, 0x34#8, p)
  | .setWindow p => some (.unicast, 0x40#8, p)
  | .markWindow p => some (.unicast, 0x41#8, p)
  | .readWindow p => some (.unicast, 0x42#8, p)
  | .nextChunk p => some (.unicast, 0x43#8, p)
  | .abort p => some (.unicast, 0x44#8, p)
  | .setReturnSize p => some (.unicast, 0x45#8, p)
  | .latchCounts dest p => some (dest, 0x50#8, p)
  | .readCounts p => some (.unicast, 0x51#8, p)
  | .clearCounts p => some (.unicast, 0x52#8, p)
  | .storeSettings p => some (.unicast, 0x60#8, p)
  | .recallSettings p => some (.unicast, 0x61#8, p)
  | .unknownKind _ => none
  | .frameCrcDiscard => none
  | .foreignFrame => none
  | .broadcastIgnored => none
  | .frameOverrunDiscard _ => none
  | .lineIdleArmed => none
  | .frameGapTimeout => none
  | .replyAbandoned _ => none
  | .replySent => none
  | .indexEvent _ => none
  | .warnEdge _ _ => none
  | .settleExpiry => none
  | .closedConfirmation _ _ => none
  | .closeTimeout => none
  | .openConfirmation _ _ => none
  | .openTimeout => none
  | .samplingTick _ _ => none
  | .predictedDeadline => none
  | .stall => none
  | .restoreIdleSignal => none
  | .primeEnd => none
  | .flapDue _ => none
  | .flapPulseEnd _ => none
  | .storeComplete => none
  | .powerOn => none
  | .powerLoss => none
  | .pinReset => none
  | .resetRelease => none
  | .settingsLoad _ _ => none
  | .linkByteReceived _ => none
  | .replyBegin => none

/-- The frame a request to the station `own` travels in; none for a command that is no request. -/
def encodeRequest (own : Byte) (i : Instr) : Option (List Byte) :=
  match requestParts i with
  | some (.unicast, kind, p) => some (frameBytes own kind p)
  | some (.broadcast, kind, p) => some (frameBytes 0#8 kind p)
  | none => none

/-- The command that a word spells by the table's bits. No row of spec/opcode_table.json gives bits, so no
word spells one. -/
def decodeTableWord (_nbits _w : Nat) : Option Instr := none

end Sys2Proof
end

