-- ==== Sys2Proof/Machine/Codes.lean ====
section
/-! DEFINITION. The codes of the enumerations on the link (11 sections 11.3, 11.7 and 11.8), and the sets
coded as bit masks (11 R188). -/

namespace Sys2Proof.Machine

def Status.code : Status → Nat
  | .ok => 0
  | .clamped => 1
  | .already => 2
  | .busy => 3
  | .mode => 4
  | .range => 5
  | .conflict => 6
  | .unknown => 7
  | .early => 8
  | .late => 9
  | .repeated => 10
  | .empty => 11
  | .config => 12
  | .fault => 13
  | .kind => 14
  | .length => 15
  | .checksum => 16

def Mode.code : Mode → Nat
  | .idle => 0
  | .starting => 1
  | .run => 2
  | .halted => 3

def HaltCause.code : HaltCause → Nat
  | .none => 0
  | .pressOpen => 1
  | .pressClose => 2
  | .indexClosed => 3

def PressState.code : PressState → Nat
  | .opened => 0
  | .settling => 1
  | .closing => 2
  | .dwell => 3
  | .releasing => 4
  | .stuck => 5

def EndCause.code : EndCause → Nat
  | .complete => 0
  | .dwellLimit => 1
  | .warning => 2
  | .predicted => 3
  | .stop => 4
  | .index => 5
  | .closeTimeout => 6

/-- The seal state code of a verdict; PRESSING is 0 (11 section 11.6). -/
def Verdict.code : Verdict → Nat
  | .bonded => 1
  | .underbond => 2
  | .scorch => 3
  | .sensor => 4

def RhythmState.code : RhythmState → Nat
  | .stopped => 0
  | .acquiring => 1
  | .locked => 2
  | .slipping => 3

def RhythmCause.code : RhythmCause → Nat
  | .index => 0
  | .stall => 1
  | .grade => 2

def Judgement.code : Judgement → Nat
  | .none => 0
  | .inside => 1
  | .short => 2
  | .long => 3
  | .noWarning => 4

def Grade.code : Grade → Nat
  | .g1 => 0
  | .g2 => 1
  | .g3 => 2
  | .g4 => 3

def GradeCause.code : GradeCause → Nat
  | .downgrade => 0
  | .limit => 1
  | .recover => 2
  | .restore => 3
  | .conflict => 4

def RestoreSource.code : RestoreSource → Nat
  | .none => 0
  | .request => 1
  | .stop => 2
  | .idle => 3
  | .advertise => 4
  | .assign => 5

def ModeCause.code : ModeCause → Nat
  | .started => 0
  | .startFailed => 1
  | .halted => 2
  | .resumed => 3
  | .stopped => 4

/-- A halt cause code, a zone number, 4 for PRESS, 0 for none (11 section 11.7). -/
def ModeDetail.code : ModeDetail → Nat
  | .none => 0
  | .halt c => c.code
  | .zone z => z.number
  | .press => 4

def Health.code : Health → Nat
  | .healthy => 0
  | .faulted => 1

def ZoneKind.code : ZoneKind → Nat
  | .openCircuit => 0
  | .shorted => 1
  | .recovered => 2

def Fate.code : Fate → Nat
  | .pass => 0
  | .reject => 1
  | .sample => 2

/-- The mark codes of 02 section 2.4, which also number the mark counts (11 section 11.5). -/
def MarkKind.index : MarkKind → Fin 16
  | .fillShort => 0
  | .fillOver => 1
  | .fillMissing => 2
  | .cardMissing => 3
  | .regOffset => 4
  | .placeMissing => 5
  | .visionFail => 6
  | .visionMissing => 7
  | .scorch => 8
  | .dwellCut => 9
  | .notSealed => 10
  | .sensor => 11
  | .cadence => 12
  | .indexClosed => 13
  | .operator => 14
  | .underbond => 15

/-- The mark kinds in code order. -/
def MarkKind.all : List MarkKind :=
  [.fillShort, .fillOver, .fillMissing, .cardMissing, .regOffset, .placeMissing, .visionFail,
   .visionMissing, .scorch, .dwellCut, .notSealed, .sensor, .cadence, .indexClosed, .operator, .underbond]

def MarkKind.code (k : MarkKind) : Nat := k.index.val

def MarkResult.code : MarkResult → Nat
  | .none => 0
  | .appended => 1
  | .heldAlready => 2
  | .overflowed => 3

def StoreCause.code : StoreCause → Nat
  | .stored => 0
  | .lost => 1

def UnknownPolicy.code : UnknownPolicy → Nat
  | .reject => 0
  | .pass => 1

/-- The bit of an event flag, in the order of 11 section 11.5. -/
def EventFlag.bit : EventFlag → Nat
  | .advance => 0
  | .stroke => 1
  | .rhythm => 2
  | .grade => 3
  | .mode => 4
  | .zone => 5
  | .deadline => 6
  | .store => 7
  | .linkError => 8
  | .queueOverflow => 9
  | .gradeConflict => 10
  | .sealLimit => 11

/-- A yes/no code. -/
def boolCode (b : Bool) : Nat := if b then 1 else 0

/-- The grades, fastest first. -/
def Grade.all : List Grade := [.g1, .g2, .g3, .g4]

/-- Whether a set of grades holds a grade. -/
def GradeSet.has (s : GradeSet) (g : Grade) : Bool := s.getLsbD g.code

/-- Whether a set of lanes holds a lane. -/
def LaneSet.has (s : LaneSet) (l : Lane) : Bool := s.getLsbD l.number

/-- The lane a code names; none above D. -/
def laneOfCode (n : Nat) : Option Lane :=
  match n with
  | 0 => some .a
  | 1 => some .b
  | 2 => some .c
  | 3 => some .d
  | _ => none

/-- The zone a code names, a code above 3 taken as 3 (01 R5). -/
def zoneOfCode (n : Nat) : Zone :=
  match n with
  | 0 => .z0
  | 1 => .z1
  | 2 => .z2
  | _ => .z3

/-- The recipe or rule number a code names; none beyond the last. -/
def indexOfCode (n : Nat) (size : Nat) : Option (Fin size) :=
  if h : n < size then some ⟨n, h⟩ else none

/-- The outcome a code names (11 section 11.8). -/
def fateOfCode (n : Nat) : Option Fate :=
  match n with
  | 0 => some .pass
  | 1 => some .reject
  | 2 => some .sample
  | _ => none

/-- The mark kind a code names. -/
def markOfCode (n : Nat) : Option MarkKind := MarkKind.all[n]?

/-- The mark condition a code names: 10h ANY, 11h NONE (11 section 11.8). -/
def markConditionOfCode (n : Nat) : Option MarkCondition :=
  if n = 0x10 then some .any
  else if n = 0x11 then some .none
  else (markOfCode n).map MarkCondition.holds

def MarkCondition.code : MarkCondition → Nat
  | .any => 0x10
  | .none => 0x11
  | .holds k => k.code

/-- The rule recipe a code names: none (ANY) for 10h (11 section 11.8); no reading for another code. -/
def ruleRecipeOfCode (n : Nat) : Option (Option (Fin 16)) :=
  if n = 0x10 then some none else (indexOfCode n 16).map some

/-- The rule lane a code names: none (ANY) for 4; no reading for another code. -/
def ruleLaneOfCode (n : Nat) : Option (Option Lane) :=
  if n = 4 then some none else (laneOfCode n).map some

end Sys2Proof.Machine
end

