-- ==== Sys2Proof/Machine/State.lean ====
section
/-! DEFINITION. The state of the part: every block's state as the manual's chapters list it, the input
levels, the model's clock, and the queue of waiting commands. -/

namespace Sys2Proof.Machine

/-- The part (00_scope.md section 3). -/
structure State where
  /-- The model's clock, ms (assumption 1). -/
  now : Nat
  /-- How many free values have been drawn (assumption 5). -/
  freeDraws : Nat
  /-- Supply and reset (09 R162, R163). -/
  phase : Phase
  /-- Levels of the input pins. -/
  pins : Pins
  /-- The working settings (10 section 10.7). -/
  settings : Settings
  /-- The stored copy (10 R183). -/
  store : StoreUnit
  /-- The Mode Controller (09 R153). -/
  mode : ModeUnit
  /-- The Track Unit (02). -/
  track : TrackState
  /-- The Zone Sampler (04). -/
  zones : ZoneState
  /-- The Press Sequencer (05). -/
  press : PressUnit
  /-- The Rhythm Monitor (06). -/
  rhythm : RhythmUnit
  /-- The Grade Selector (07). -/
  grade : GradeUnit
  /-- The Discharge Unit (08). -/
  discharge : DischargeUnit
  /-- The Notice Queue (10 R173). -/
  notices : NoticeUnit
  /-- The Link Port (10). -/
  link : LinkUnit
  /-- The commands that wait, first in first out. -/
  pending : List Instr
  deriving DecidableEq, Repr

/-- Why the machine stops. Nothing of the spec stops the part: every trouble it names is a reply, a notice
or a state with an effect of its own, so no command raises a fault and there is no constructor. -/
inductive Fault where
  deriving DecidableEq, Repr

/-- Why a command has no meaning. -/
inductive Refusal where
  /-- Raised by an arm of exec whose command has no meaning yet; no arm is so. Safe: the machine stops. -/
  | notModelled (mnemonic : String)
  deriving DecidableEq, Repr

/-- What a command answers. -/
abbrev Out := Host.Outcome State Fault Refusal

namespace State

/-- `now` replaced. -/
def setNow (s : State) (x : Nat) : State := { s with now := x }

/-- `freeDraws` replaced. -/
def setFreeDraws (s : State) (x : Nat) : State := { s with freeDraws := x }

/-- `phase` replaced. -/
def setPhase (s : State) (x : Phase) : State := { s with phase := x }

/-- `pins` replaced. -/
def setPins (s : State) (x : Pins) : State := { s with pins := x }

/-- `settings` replaced. -/
def setSettings (s : State) (x : Settings) : State := { s with settings := x }

/-- `store` replaced. -/
def setStore (s : State) (x : StoreUnit) : State := { s with store := x }

/-- `mode` replaced. -/
def setMode (s : State) (x : ModeUnit) : State := { s with mode := x }

/-- `track` replaced. -/
def setTrack (s : State) (x : TrackState) : State := { s with track := x }

/-- `zones` replaced. -/
def setZones (s : State) (x : ZoneState) : State := { s with zones := x }

/-- `press` replaced. -/
def setPress (s : State) (x : PressUnit) : State := { s with press := x }

/-- `rhythm` replaced. -/
def setRhythm (s : State) (x : RhythmUnit) : State := { s with rhythm := x }

/-- `grade` replaced. -/
def setGrade (s : State) (x : GradeUnit) : State := { s with grade := x }

/-- `discharge` replaced. -/
def setDischarge (s : State) (x : DischargeUnit) : State := { s with discharge := x }

/-- `notices` replaced. -/
def setNotices (s : State) (x : NoticeUnit) : State := { s with notices := x }

/-- `link` replaced. -/
def setLink (s : State) (x : LinkUnit) : State := { s with link := x }

/-- `pending` replaced. -/
def setPending (s : State) (x : List Instr) : State := { s with pending := x }

/-- The part right after reset: the end of the power-on sequence of a part whose stored copy was never
written since manufacture, so that the load finds it bad, installs the defaults and queues the STORE LOST
notice (09 R162; 10 R185, R186). Clock 0, address straps open, platen open: assumption 6. -/
def reset : State where
  now := 0
  freeDraws := 0
  phase := .running
  pins := ⟨⟨true, false⟩, false⟩
  settings := defaultSettings
  store := ⟨none, false, false⟩
  mode := idleMode
  track := ⟨unknownTrack defaultLine.pGate, 0#16, 0#32, wholeWindow defaultLine.pGate⟩
  zones := freshZones 0
  press := ⟨.opened, false, none, none, none, none, 0, 0#32⟩
  rhythm := freshRhythm 0
  grade := ⟨0xF#4, 0xF#4, .g1, .g1, 0, 0, 0, 0#2⟩
  discharge := ⟨Quad.const freshFlap, freshFlap, zeroBank, none⟩
  notices := ⟨[(0#8, .store .lost)], false, 1#8, 0x080#12⟩
  link := ⟨.hunt, [], .none, none, 31#8, 0#2⟩
  pending := []

end State

end Sys2Proof.Machine
end

