-- ==== Sys2Proof/Machine/Operands.lean ====
section
/-! DEFINITION. Reading the fields of a request, clamping, and the byte layouts of what the part sends
(11 R188 and sections 11.4 to 11.7). -/

namespace Sys2Proof.Machine

/-! ## Reading fields -/

/-- The byte at an offset of a payload, as a number. -/
def byteAt (p : List Byte) (i : Nat) : Nat := (p.getD i 0#8).toNat

/-- The two bytes at an offset, high byte first. -/
def wordAt (p : List Byte) (i : Nat) : Nat := byteAt p i * 256 + byteAt p (i + 1)

/-- The two bytes at an offset as a two's complement number. -/
def signedAt (p : List Byte) (i : Nat) : Int := (BitVec.ofNat 16 (wordAt p i)).toInt

/-- A number brought into a range (01 R5). -/
def clamp (lo hi n : Nat) : Nat := if n < lo then lo else if hi < n then hi else n

/-! ## The line configuration (11 section 11.4) -/

/-- One field's new record, and whether clamping changed the value (01 R5). -/
def clampInto (lo hi : Nat) (v : List Byte) (put : Nat → LineConfig) : LineConfig × Bool :=
  let n := beNat v
  (put (clamp lo hi n), clamp lo hi n != n)

/-- The four zones of a zone map field (01 R5: a zone above 3 becomes 3). -/
def zoneMapOf (v : List Byte) : Quad Zone :=
  ⟨zoneOfCode (byteAt v 0), zoneOfCode (byteAt v 1), zoneOfCode (byteAt v 2), zoneOfCode (byteAt v 3)⟩

/-- The four periods of field 9, as carried. -/
def periodsOf (v : List Byte) : Quad Nat := ⟨wordAt v 0, wordAt v 2, wordAt v 4, wordAt v 6⟩

/-- Field `n` of a line configuration replaced by the clamped value that `v` carries, and whether the value
was clamped (01 section 1.1, R5). -/
def setLineField (n : Nat) (v : List Byte) (c : LineConfig) : LineConfig × Bool :=
  match n with
  | 0 => ({ c with lanes := BitVec.ofNat 4 (beNat v) }, decide (15 < beNat v))
  | 1 => clampInto 1 39 v fun x => { c with pPlace := x }
  | 2 => clampInto 1 39 v fun x => { c with pSeal := x }
  | 3 => clampInto 1 39 v fun x => { c with pVision := x }
  | 4 => clampInto 1 39 v fun x => { c with pGate := x }
  | 5 => clampInto 1 39 v fun x => { c with dFill := x }
  | 6 => clampInto 1 39 v fun x => { c with dPlace := x }
  | 7 => clampInto 1 39 v fun x => { c with dVision := x }
  | 8 => ({ c with zoneMap := zoneMapOf v }, v.any fun b => decide (3 < b.toNat))
  | 9 =>
    let e := periodsOf v
    ({ c with periods := e.map (clamp 200 10000) }, e.toList.any fun x => clamp 200 10000 x != x)
  | 10 => clampInto 1 25 v fun x => { c with tol := x }
  | 11 => clampInto 2 15 v fun x => { c with lockCount := x }
  | 12 => clampInto 2 15 v fun x => { c with slipLimit := x }
  | 13 => clampInto 0 500 v fun x => { c with releaseLead := x }
  | 14 => clampInto 0 250 v fun x => { c with settle := x }
  | 15 => clampInto 20 1000 v fun x => { c with closeTimeout := x }
  | 16 => clampInto 20 1000 v fun x => { c with openTimeout := x }
  | 17 => clampInto 1 250 v fun x => { c with unlockedDwellCap := x }
  | 18 => clampInto 0 1 v fun x => { c with warnInUse := x == 1 }
  | 19 => clampInto 2 9 v fun x => { c with strikeLimit := x }
  | 20 => clampInto 4 255 v fun x => { c with cleanRun := x }
  | 21 => clampInto 0 65535 v fun x => { c with recoverRun := x }
  | 22 => clampInto 5 600 v fun x => { c with restoreIdle := x }
  | 23 => clampInto 0 2000 v fun x => { c with gateDelay := x }
  | 24 => clampInto 10 500 v fun x => { c with gatePulse := x }
  | 25 => clampInto 0 2000 v fun x => { c with sampleDelay := x }
  | 26 => clampInto 10 500 v fun x => { c with samplePulse := x }
  | 27 => clampInto 0 1 v fun x => { c with unknownPolicy := if x = 1 then .pass else .reject }
  | _ => (c, false)

/-- The bytes of field `n` of a line configuration (11 section 11.4). -/
def lineFieldBytes (n : Nat) (c : LineConfig) : List Byte :=
  match n with
  | 0 => [byte c.lanes.toNat]
  | 1 => [byte c.pPlace]
  | 2 => [byte c.pSeal]
  | 3 => [byte c.pVision]
  | 4 => [byte c.pGate]
  | 5 => [byte c.dFill]
  | 6 => [byte c.dPlace]
  | 7 => [byte c.dVision]
  | 8 => c.zoneMap.toList.map fun z => byte z.number
  | 9 => c.periods.toList.flatMap be16
  | 10 => [byte c.tol]
  | 11 => [byte c.lockCount]
  | 12 => [byte c.slipLimit]
  | 13 => be16 c.releaseLead
  | 14 => be16 c.settle
  | 15 => be16 c.closeTimeout
  | 16 => be16 c.openTimeout
  | 17 => [byte c.unlockedDwellCap]
  | 18 => [byte (boolCode c.warnInUse)]
  | 19 => [byte c.strikeLimit]
  | 20 => [byte c.cleanRun]
  | 21 => be16 c.recoverRun
  | 22 => be16 c.restoreIdle
  | 23 => be16 c.gateDelay
  | 24 => be16 c.gatePulse
  | 25 => be16 c.sampleDelay
  | 26 => be16 c.samplePulse
  | 27 => [byte c.unknownPolicy.code]
  | _ => []

/-- The bytes of all 28 fields (01 R9). -/
def lineBytes (c : LineConfig) : List Byte := (List.range 28).flatMap fun n => lineFieldBytes n c

/-- A candidate record being built: the record, the clamped-field mask and the values not yet read. -/
structure Candidate where
  line : LineConfig
  clamped : BitVec 32
  rest : List Byte
  deriving DecidableEq, Repr

/-- One field number of the presence mask taken (01 R4). -/
def takeField (mask : Nat) (k : Candidate) (n : Nat) : Candidate :=
  if mask.testBit n then
    let r := setLineField n (k.rest.take (lineFieldSize n)) k.line
    ⟨r.1, if r.2 then k.clamped ||| (1#32 <<< n) else k.clamped, k.rest.drop (lineFieldSize n)⟩
  else k

/-- The candidate record of a CONFIGURE LINE: each field the mask names, in field-number order (01 R4). -/
def buildCandidate (mask : Nat) (values : List Byte) (c : LineConfig) : Candidate :=
  (List.range 28).foldl (takeField mask) ⟨c, 0#32, values⟩

/-! ## Recipes and rules (11 section 11.4) -/

/-- The bytes of a recipe's fields 0 to 10. -/
def recipeBytes (r : Recipe) : List Byte :=
  [byte (boolCode r.valid)] ++ be16 r.tAct ++ be16 r.pRef ++ be16 r.doseMin ++ be16 r.doseTarget ++
    be16 r.doseMax ++ be16 r.dwellMin ++ be16 r.dwellMax ++ [byte r.items, byte r.regTol, byte r.grades.toNat]

/-- A recipe read from the fields of a WRITE RECIPE after its number, clamped (01 R12 step 5). -/
def recipeOf (f : List Byte) : Recipe where
  valid := decide (0 < byteAt f 0)
  tAct := clamp 320 1000 (wordAt f 1)
  pRef := clamp 64 1023 (wordAt f 3)
  doseMin := wordAt f 5
  doseTarget := wordAt f 7
  doseMax := wordAt f 9
  dwellMin := clamp 1 250 (wordAt f 11)
  dwellMax := clamp 1 250 (wordAt f 13)
  items := clamp 0 15 (byteAt f 15)
  regTol := clamp 0 127 (byteAt f 16)
  grades := BitVec.ofNat 4 (byteAt f 17)

/-- The mask of the recipe fields that clamping changed, field n at bit n (01 R12, R13). -/
def recipeClamps (f : List Byte) : BitVec 16 :=
  let bit (n : Nat) (changed : Bool) : BitVec 16 := if changed then 1#16 <<< n else 0#16
  bit 0 (decide (1 < byteAt f 0)) |||
    bit 1 (clamp 320 1000 (wordAt f 1) != wordAt f 1) |||
    bit 2 (clamp 64 1023 (wordAt f 3) != wordAt f 3) |||
    bit 6 (clamp 1 250 (wordAt f 11) != wordAt f 11) |||
    bit 7 (clamp 1 250 (wordAt f 13) != wordAt f 13) |||
    bit 8 (clamp 0 15 (byteAt f 15) != byteAt f 15) |||
    bit 9 (clamp 0 127 (byteAt f 16) != byteAt f 16)

/-- The six bytes of a rule with its number (11 section 11.4). -/
def ruleBytes (n : Fin 8) (r : Rule) : List Byte :=
  [byte n.val, byte (boolCode r.active), byte (match r.recipe with | some k => k.val | none => 0x10),
   byte (match r.lane with | some l => l.number | none => 4), byte r.mark.code, byte r.fate.code]

/-! ## Slots (11 section 11.6) -/

/-- The slot tag (11 section 11.6). -/
def slotTag : Slot → Nat
  | .record _ => 0
  | .unknown => 1
  | .none => 2

/-- The presence bits of a record's parts: fill, place, seal, vision. -/
def presenceBits (c : CardRecord) : Nat :=
  boolCode c.fill.isSome + 2 * boolCode c.place.isSome + 4 * boolCode c.sealPart.isSome +
    8 * boolCode c.vision.isSome

/-- The seal state code; an absent part is sent as 0 (11 R188). -/
def sealCode : Option SealPart → Nat
  | some (.final v _ _ _) => v.code
  | some .pressing => 0
  | none => 0

/-- The mark byte: mark count in bits 0 to 2, overflow indicator in bit 7. -/
def markByte (c : CardRecord) : Nat := c.marks.length + 128 * boolCode c.overflow

/-- Termination cause, dose and dwell of a seal part; what stands for nothing is sent as 0 (11 R188). -/
def sealBytes : Option SealPart → List Byte
  | some (.final _ cause dose dwell) => [byte cause.code] ++ be16 dose ++ [byte dwell]
  | some .pressing => [0#8, 0#8, 0#8, 0#8]
  | none => [0#8, 0#8, 0#8, 0#8]

/-- The place part's bytes: card present, offset. -/
def placeBytes : Option PlacePart → List Byte
  | some q => [byte (boolCode q.present), BitVec.ofInt 8 q.offset]
  | none => [0#8, 0#8]

/-- The vision part's bytes: result, defect code. -/
def visionBytes : Option VisionPart → List Byte
  | some v => [byte (boolCode v.failed), v.defect]
  | none => [0#8, 0#8]

/-- One entry of a window chunk (11 section 11.6). -/
def entryBytes (e : WindowEntry) : List Byte :=
  [byte (slotTag e.slot), byte e.position, byte e.lane.number] ++
    match e.slot with
    | .record c =>
      be16 c.serial.toNat ++ [byte c.recipe.val, byte (presenceBits c), byte (c.fill.getD 0)] ++
        placeBytes c.place ++ [byte (sealCode c.sealPart)] ++ sealBytes c.sealPart ++ visionBytes c.vision ++
        [byte (markByte c)] ++ c.marks.map fun k => byte k.code
    | .unknown => []
    | .none => []

/-- The slot part of a LOOKUP reply: the bytes that 11 R188 and the table of 11 section 11.5 give, which are those
that 03 R62 names. They hold no part value, whose presence bit tells that it is written; the words of 03 R55 and R56
that LOOKUP shows the offset and the defect code are read so (assumption 22, DEDUCED). -/
def lookupSlotBytes (slot : Slot) : List Byte :=
  byte (slotTag slot) ::
    match slot with
    | .record c =>
      be16 c.serial.toNat ++
        [byte c.recipe.val, byte (presenceBits c), byte (sealCode c.sealPart), byte (markByte c)]
    | .unknown => []
    | .none => []

/-! ## Notices (11 section 11.7) -/

/-- The event flag of a notice's kind (10 R173). -/
def Notice.flag : Notice → EventFlag
  | .advance .. => .advance
  | .stroke .. => .stroke
  | .rhythm .. => .rhythm
  | .grade .. => .grade
  | .mode .. => .mode
  | .zone .. => .zone
  | .deadline .. => .deadline
  | .store .. => .store

/-- The kind code of a notice, 1 to 8: the eight kinds stand in the order of their flags. -/
def Notice.kindCode (n : Notice) : Nat := n.flag.bit + 1

/-- The content that entered one lane: slot tag and serial. -/
def enteredBytes : Option Serial → List Byte
  | some n => 0#8 :: be16 n.toNat
  | none => [2#8, 0#8, 0#8]

/-- One discharged slot: slot tag, serial, outcome. -/
def leftBytes : LeftSlot → List Byte
  | .record n f => 0#8 :: (be16 n.toNat ++ [byte f.code])
  | .unknown f => [1#8, 0#8, 0#8, byte f.code]
  | .none => [2#8, 0#8, 0#8, 0xFF#8]

/-- One lane of a STROKE notice. -/
def strokeReportBytes : Option StrokeReport → List Byte
  | some r => byte (if r.applied then 1 else 2) :: (be16 r.serial.toNat ++ be16 r.dose ++ [byte r.verdict.code])
  | none => [0#8, 0#8, 0#8, 0#8, 0#8, 0#8]

/-- The body of a notice. -/
def Notice.body : Notice → List Byte
  | .advance count entered left =>
    be32 count.toNat ++ entered.toList.flatMap enteredBytes ++ left.toList.flatMap leftBytes
  | .stroke number cause n startLocked lanes =>
    be32 number.toNat ++ [byte cause.code, byte n, byte (boolCode startLocked)] ++
      lanes.toList.flatMap strokeReportBytes
  | .rhythm before after cause judgement interval period advised =>
    [byte before.code, byte after.code, byte cause.code, byte judgement.code] ++ be16 interval ++ be16 period ++
      [byte advised.code]
  | .grade cause source fb fa ab aa common strike =>
    [byte cause.code, byte source.code, byte fb.code, byte fa.code, byte ab.code, byte aa.code,
     byte common.toNat, byte strike]
  | .mode before after cause detail advances =>
    [byte before.code, byte after.code, byte cause.code, byte detail.code] ++ be32 advances.toNat
  | .zone z health kind code held =>
    [byte z.number, byte health.code, byte kind.code] ++ be16 code.toNat ++ be16 held.toNat
  | .deadline serial lane position mark stored =>
    be16 serial.toNat ++ [byte lane.number, byte position, byte mark.code, byte (boolCode stored)]
  | .store cause => [byte cause.code]

/-! ## Counts and status (11 section 11.5) -/

/-- The eight counts of a lane in the order of READ COUNTS. -/
def LaneCounts.list (k : LaneCounts) : List (BitVec 32) :=
  [k.entered, k.discharged, k.passed, k.rejected, k.sampled, k.purged, k.unknownRejected, k.unknownPassed]

/-- The 51 counts in the order of READ COUNTS. -/
def CounterBank.list (b : CounterBank) : List (BitVec 32) :=
  b.lanes.toList.flatMap LaneCounts.list ++ b.marks.toList ++ [b.strokes, b.failing, b.downgrades]

/-- The payload of a READ COUNTS reply. -/
def countsBytes (source : Nat) (advances : BitVec 32) (b : CounterBank) : List Byte :=
  [byte Status.ok.code, byte source] ++ be32 advances.toNat ++ b.list.flatMap fun k => be32 k.toNat

/-- The payload of a STATUS reply, 38 bytes (11 section 11.5). -/
def statusBytes (s : State) : List Byte :=
  [byte Status.ok.code, byte s.mode.mode.code, byte s.mode.haltCause.code, byte s.press.state.code,
   byte s.rhythm.state.code] ++ be16 s.rhythm.lastInterval ++
    [byte s.grade.advised.code, byte s.grade.floor.code, byte s.grade.common.toNat, byte s.grade.strike,
     byte s.grade.cleanRun] ++
    s.zones.zone.toList.flatMap (fun z => byte z.health.code :: be16 z.held.toNat) ++
    be16 s.zones.pressure.toNat ++ be16 s.notices.flags.toNat ++
    [byte (boolCode s.notices.overflow + 2 * boolCode s.store.valid + 4 * boolCode s.store.busy),
     byte s.notices.queue.length] ++
    be32 s.track.advances.toNat ++ be32 s.press.strokes.toNat

end Sys2Proof.Machine
end

