-- ==== Sys2Proof/Machine/Flags.lean ====
section
/-! DEFINITION. The event flags and the notice queue (10 section 10.4). -/

namespace Sys2Proof.Machine

/-- An event flag set. -/
def NoticeUnit.setFlag (q : NoticeUnit) (f : EventFlag) : NoticeUnit :=
  { q with flags := q.flags ||| (1#12 <<< f.bit) }

/-- Whether an event flag is set. -/
def NoticeUnit.hasFlag (q : NoticeUnit) (f : EventFlag) : Bool := q.flags.getLsbD f.bit

/-- An event of a notice kind taken by the queue in the order of 10 R173: its flag, then its notice where
the mask enables the kind, appended if the queue holds fewer than 32 notices and dropped otherwise. -/
def NoticeUnit.push (q : NoticeUnit) (mask : BitVec 8) (n : Notice) : NoticeUnit :=
  let q := q.setFlag n.flag
  if mask.getLsbD n.flag.bit then
    if q.queue.length < 32 then
      { q with queue := q.queue ++ [(q.nextNumber, n)], nextNumber := q.nextNumber + 1#8 }
    else { q with overflow := true }.setFlag .queueOverflow
  else q

/-- An event raised under the working notice mask. -/
def State.raise (s : State) (n : Notice) : State := s.setNotices (s.notices.push s.settings.noticeMask n)

/-- A flag that has no notice kind set. -/
def State.setFlag (s : State) (f : EventFlag) : State := s.setNotices (s.notices.setFlag f)

/-- ATTN: asserted while the queue holds at least one notice (10 R174). -/
def State.attn (s : State) : Bool := !s.notices.queue.isEmpty

end Sys2Proof.Machine
end

