-- ==== Sys2Proof/Machine/Ops.lean ====
section
/-! DEFINITION. The operations several blocks share: the clock, the counts, the track and its records, the
marking procedure, and taking a request frame and answering it. -/

namespace Sys2Proof.Machine

/-! ## The clock (assumptions 1 to 3) -/

/-- Whether the part is past the end of its reset sequence: powered, RESET released, settings loaded. -/
def State.running (s : State) : Bool := decide (s.phase = .running)

/-- The clock carried on to a moment, never back (assumption 2). -/
def State.reach (s : State) (t : Nat) : State := s.setNow (max s.now t)

/-- Some milliseconds pass (assumption 3). -/
def State.elapse (s : State) (ms : Nat) : State := s.setNow (s.now + ms)

/-! ## Counts (08 R148) -/

/-- The largest value of a 32-bit count. -/
def countMax : Nat := 4294967295

/-- A count increased, held at its largest value. -/
def satAdd (k : BitVec 32) (n : Nat) : BitVec 32 := BitVec.ofNat 32 (min (k.toNat + n) countMax)

/-- A count increased by one, held at its largest value. -/
def satInc (k : BitVec 32) : BitVec 32 := satAdd k 1

/-- One lane's counts changed. -/
def CounterBank.onLane (b : CounterBank) (l : Lane) (f : LaneCounts → LaneCounts) : CounterBank :=
  { b with lanes := b.lanes.setLane l (f (b.lanes.lane l)) }

/-- One mark kind's count increased (08 R143). -/
def CounterBank.incMark (b : CounterBank) (k : MarkKind) : CounterBank :=
  { b with marks := b.marks.set k.index.val (satInc b.marks[k.index.val]) }

/-- The counter bank changed. -/
def State.onBank (s : State) (f : CounterBank → CounterBank) : State :=
  s.setDischarge { s.discharge with bank := f s.discharge.bank }

/-! ## The track (02 R19 to R24) -/

/-- The slots at a position; UNKNOWN beyond the track. -/
def rowAt (rows : List Row) (pos : Nat) : Row := rows.getD pos unknownRow

/-- The slot at a position and lane. -/
def slotAt (rows : List Row) (pos : Nat) (l : Lane) : Slot := (rowAt rows pos).lane l

/-- The slot at a position and lane replaced. -/
def putSlot (rows : List Row) (pos : Nat) (l : Lane) (x : Slot) : List Row :=
  rows.set pos ((rowAt rows pos).setLane l x)

/-- The record of a slot, if it holds one. -/
def Slot.card : Slot → Option CardRecord
  | .record c => some c
  | .unknown => Option.none
  | .none => Option.none

/-- Whether a slot holds a card record. -/
def Slot.isRecord (x : Slot) : Bool := x.card.isSome

/-- A record found: where it stands, and the record. -/
structure Found where
  position : Nat
  lane : Lane
  card : CardRecord
  deriving DecidableEq, Repr

/-- A serial sought in one lane of a position. -/
def findInLane (serial : Serial) (pos : Nat) (r : Row) (l : Lane) : Option Found :=
  match (r.lane l).card with
  | some c => if c.serial = serial then some ⟨pos, l, c⟩ else none
  | none => none

/-- A serial sought from a position on, position-ascending and lane-ascending. -/
def findFrom (serial : Serial) (pos : Nat) (rows : List Row) : Option Found :=
  match rows with
  | [] => none
  | r :: rest =>
    match Lane.all.findSome? (findInLane serial pos r) with
    | some f => some f
    | none => findFrom serial (pos + 1) rest

/-- The record a serial names among the records in the track (02 R24). -/
def State.findCard (s : State) (serial : Serial) : Option Found := findFrom serial 0 s.track.rows

/-- The track's slots replaced. -/
def State.setRows (s : State) (rows : List Row) : State := s.setTrack { s.track with rows := rows }

/-- A record written back where it was found. -/
def State.putCard (s : State) (f : Found) (c : CardRecord) : State :=
  s.setRows (putSlot s.track.rows f.position f.lane (.record c))

/-- The number of card records one lane holds in the track. -/
def liveCount (rows : List Row) (l : Lane) : Nat := rows.countP fun r => (r.lane l).isRecord

/-- Whether the track holds no card record. -/
def noRecords (rows : List Row) : Bool := rows.all fun r => Lane.all.all fun l => !(r.lane l).isRecord

/-! ## Marks (02 R27) -/

/-- The marking procedure: nothing if the list holds the kind; appended if it holds fewer than 6; otherwise
the overflow indicator. -/
def CardRecord.addMark (c : CardRecord) (k : MarkKind) : CardRecord × MarkResult :=
  if k ∈ c.marks then (c, .heldAlready)
  else if c.marks.length < 6 then ({ c with marks := c.marks ++ [k] }, .appended)
  else ({ c with overflow := true }, .overflowed)

/-- Several marks added in order. -/
def CardRecord.addMarks (c : CardRecord) (ks : List MarkKind) : CardRecord :=
  ks.foldl (fun c k => (c.addMark k).1) c

/-! ## Purge and rebuild (02 R44, R7) -/

/-- Each record counted in its lane's purged count. -/
def countPurged (rows : List Row) (b : CounterBank) : CounterBank :=
  Lane.all.foldl
    (fun b l => b.onLane l fun k => { k with purged := satAdd k.purged (liveCount rows l) }) b

/-- The purge: every record counted as purged, then every slot UNKNOWN, the length kept (02 R44). -/
def State.purge (s : State) : State :=
  (s.onBank (countPurged s.track.rows)).setRows (s.track.rows.map fun _ => unknownRow)

/-- The track rebuilt for the working `p_gate`, every slot UNKNOWN and the window whole; `next_serial` and
the advance count are kept (01 R7). -/
def State.rebuildTrack (s : State) : State :=
  let pGate := s.settings.line.pGate
  s.setTrack { s.track with rows := unknownTrack pGate, window := wholeWindow pGate }

/-! ## Settings in use -/

/-- The recipe with a number. -/
def Settings.recipe (st : Settings) (n : Fin 16) : Recipe := st.recipes[n.val]

/-- Whether a lane is enabled. -/
def Settings.enabled (st : Settings) (l : Lane) : Bool := LaneSet.has st.line.lanes l

/-- Whether a recipe is assigned to an enabled lane. -/
def Settings.assignedToEnabled (st : Settings) (n : Fin 16) : Bool :=
  Lane.all.any fun l => st.enabled l && decide (st.assigned.lane l = n)

/-- Whether some record in the track carries a recipe. -/
def carriesRecipe (rows : List Row) (n : Fin 16) : Bool :=
  rows.any fun r => Lane.all.any fun l =>
    match (r.lane l).card with
    | some c => decide (c.recipe = n)
    | none => false

/-- Whether a recipe is in use (01 R11). -/
def State.recipeInUse (s : State) (n : Fin 16) : Bool :=
  s.settings.assignedToEnabled n || carriesRecipe s.track.rows n

/-! ## Switches (05 R82) -/

/-- Closed confirmation: PRESS-CLOSED asserted with PRESS-OPEN not asserted. -/
def closedShown (w : Switches) : Bool := w.closedSw && !w.openSw

/-- Open confirmation: PRESS-OPEN asserted with PRESS-CLOSED not asserted. -/
def openShown (w : Switches) : Bool := w.openSw && !w.closedSw

/-- Open confirmation as the switches show it now. -/
def State.openConfirmed (s : State) : Bool := openShown s.pins.switches

/-- Closed confirmation as the switches show it now. -/
def State.closedConfirmed (s : State) : Bool := closedShown s.pins.switches

/-! ## Outcomes in turn -/

/-- What follows once a first part has answered a next state; a first part that stops, stops the whole. -/
def Out.andThen (o : Out) (f : State → Out) : Out :=
  match o with
  | .next t => f t
  | .fault e => .fault e
  | .refused e => .refused e

/-! ## Requests (10 R170 to R172; assumptions 7 and 8) -/

/-- The complete frame the receive buffer holds, if it holds one. -/
def LinkUnit.heldFrame (k : LinkUnit) : Option (List Byte) :=
  if k.receiver = .frame ∧ frameComplete k.buffer then some k.buffer else none

/-- LINK-DE: driven while a reply is on the pair (10 R166, R171). -/
def LinkUnit.driving (k : LinkUnit) : Bool :=
  match k.reply with
  | .sending _ => true
  | .awaiting _ => false
  | .none => false

/-- Whether the Link Port judges a frame to be this command: it takes frames, and the complete frame it
holds, where it holds one, is judged so. Where it holds none, the command stands for its whole frame, which the
receiver takes only from ARMED: in HUNT its bytes are discarded, and amid another frame they are bytes of that
frame (10 R167; assumption 7). -/
def State.hears (s : State) (i : Instr) : Bool :=
  s.running && !s.link.driving &&
    match s.link.heldFrame with
    | some f => decide (judgeFrame s.link.address f = i)
    | none => decide (s.link.receiver = .armed)

/-- A frame judged: the receiver is in ARMED with an empty buffer (10 R168); the frame's bytes abandoned a
reply not yet begun (10 R172). -/
def State.frameTaken (s : State) : State :=
  s.setLink { s.link with receiver := .armed, buffer := [], reply := .none }

/-- A reply prepared: the request's kind plus 80h, the status first (10 R171). -/
def State.answer (s : State) (kind : Byte) (payload : List Byte) : State :=
  s.setLink { s.link with reply := .awaiting ⟨kind + 0x80#8, payload⟩ }

/-- A status sent alone (11 R188). -/
def alone (st : Status) : List Byte := [byte st.code]

/-- What a request does: the state it leaves, and the payload of its reply. -/
abbrev Served := State × List Byte

/-- A refusal: nothing changed, the status alone. -/
def refuse (s : State) (st : Status) : Served := (s, alone st)

/-- A request addressed to the part: LENGTH where its length does not fit its kind, otherwise the effect of
its rule, taken before its reply is prepared (10 R170). -/
def serve (i : Instr) (kind : Byte) (p : List Byte) (s : State) (rule : State → Served) : Out :=
  if s.hears i then
    if fitsKind kind p then
      let r := rule s.frameTaken
      .next (r.1.answer kind r.2)
    else .next (s.frameTaken.answer kind (alone .length))
  else .next s

/-- A request that may be broadcast: a broadcast is taken with the same checks and never answered; one
whose length does not fit has no effect (10 R169). -/
def serveTo (dest : Dest) (i : Instr) (kind : Byte) (p : List Byte) (s : State) (rule : State → Served) : Out :=
  match dest with
  | .unicast => serve i kind p s rule
  | .broadcast =>
    if s.hears i then
      if fitsKind kind p then .next (rule s.frameTaken).1 else .next s.frameTaken
    else .next s

/-- Whether the mode is STARTING, in which most requests are answered BUSY (09 R156). -/
def State.starting (s : State) : Bool := decide (s.mode.mode = .starting)

/-- Whether the mode is RUN or HALTED, in which the track advances (02 R29). -/
def State.tracking (s : State) : Bool := decide (s.mode.mode = .run ∨ s.mode.mode = .halted)

/-- The mode set and INTERLOCK with it: asserted while the mode is RUN and dropped in every other (09 R154);
the prime timer stopped. -/
def State.enterMode (s : State) (m : Mode) (h : HaltCause) : State :=
  s.setMode ⟨m, h, none, decide (m = .run)⟩

/-- A MODE event (09 R165). -/
def State.modeEvent (s : State) (before : Mode) (cause : ModeCause) (detail : ModeDetail) : State :=
  s.raise (.mode before s.mode.mode cause detail s.track.advances)

end Sys2Proof.Machine
end

