-- ==== Sys2Proof/Machine/Discharge.lean ====
section
/-! DEFINITION. The Discharge Unit (08): the outcome of a discharged slot, the counts, the flaps and the row
sample output. -/

namespace Sys2Proof.Machine

/-! ## Outcomes (08 R138, R139) -/

/-- Whether a mark condition matches a record. -/
def MarkCondition.holdsFor (m : MarkCondition) (c : CardRecord) : Bool :=
  match m with
  | .any => true
  | .none => c.marks.isEmpty
  | .holds k => decide (k ∈ c.marks)

/-- Whether an active rule matches a record of a lane (08 R139). -/
def Rule.matchesCard (r : Rule) (l : Lane) (c : CardRecord) : Bool :=
  r.active && decide (r.recipe = none ∨ r.recipe = some c.recipe) &&
    decide (r.lane = none ∨ r.lane = some l) && r.mark.holdsFor c

/-- The outcome of a record: the overflow indicator, the lowest-numbered active rule that matches, the
default (08 R138). -/
def cardFate (rules : List Rule) (l : Lane) (c : CardRecord) : Fate :=
  if c.overflow then .reject
  else
    match rules.find? fun r => r.matchesCard l c with
    | some r => r.fate
    | none => if c.marks.isEmpty then .pass else .reject

/-- What an UNKNOWN slot receives (08 R138). -/
def UnknownPolicy.fate : UnknownPolicy → Fate
  | .reject => .reject
  | .pass => .pass

/-- The outcome of a slot; a NONE slot has none (08 R138). -/
def slotFate (st : Settings) (l : Lane) (x : Slot) : Option Fate :=
  match x with
  | .record c => some (cardFate st.rules.toList l c)
  | .unknown => some st.line.unknownPolicy.fate
  | .none => none

/-! ## Counting (08 R143) -/

/-- The lane counts of a discharged record. -/
def LaneCounts.addCard (k : LaneCounts) (f : Fate) : LaneCounts :=
  match f with
  | .pass => { k with discharged := satInc k.discharged, passed := satInc k.passed }
  | .reject => { k with discharged := satInc k.discharged, rejected := satInc k.rejected }
  | .sample => { k with discharged := satInc k.discharged, sampled := satInc k.sampled }

/-- The lane counts of a discharged UNKNOWN slot. -/
def LaneCounts.addUnknown (k : LaneCounts) (p : UnknownPolicy) : LaneCounts :=
  match p with
  | .reject => { k with unknownRejected := satInc k.unknownRejected }
  | .pass => { k with unknownPassed := satInc k.unknownPassed }

/-- A discharged slot added to the counts of its lane, and a record's marks to the mark counts. -/
def countSlot (st : Settings) (l : Lane) (x : Slot) (b : CounterBank) : CounterBank :=
  match x with
  | .record c =>
    c.marks.foldl CounterBank.incMark (b.onLane l fun k => k.addCard (cardFate st.rules.toList l c))
  | .unknown => b.onLane l fun k => k.addUnknown st.line.unknownPolicy
  | .none => b

/-! ## Flaps (08 R144 to R146) -/

/-- A flap fired: its pulse starts, or is retriggered, and ends a pulse time from now (08 R145). -/
def Flap.fire (f : Flap) (now pulse : Nat) : Flap := { f with pulse := some (now + pulse) }

/-- An action given to a flap at the discharge time (08 R144): a waiting action fires at once. -/
def Flap.give (f : Flap) (now delay pulse : Nat) : Flap :=
  let g := if f.pending.isSome then f.fire now pulse else f
  if delay = 0 then { g.fire now pulse with pending := none } else { g with pending := some (now + delay) }

/-- A flap or the sample output. -/
def DischargeUnit.gate (d : DischargeUnit) (o : GateOutput) : Flap :=
  match o with
  | .flap l => d.flaps.lane l
  | .sample => d.sample

/-- A flap or the sample output replaced. -/
def DischargeUnit.setGate (d : DischargeUnit) (o : GateOutput) (f : Flap) : DischargeUnit :=
  match o with
  | .flap l => { d with flaps := d.flaps.setLane l f }
  | .sample => { d with sample := f }

/-- The delay of an output's actions (08 R144, R146). -/
def gateDelayOf (c : LineConfig) (o : GateOutput) : Nat :=
  match o with
  | .flap _ => c.gateDelay
  | .sample => c.sampleDelay

/-- The pulse length of an output (08 R145, R146). -/
def gatePulseOf (c : LineConfig) (o : GateOutput) : Nat :=
  match o with
  | .flap _ => c.gatePulse
  | .sample => c.samplePulse

/-- An action given to an output at the discharge time. -/
def State.giveAction (s : State) (o : GateOutput) : State :=
  let c := s.settings.line
  s.setDischarge (s.discharge.setGate o
    ((s.discharge.gate o).give s.now (gateDelayOf c o) (gatePulseOf c o)))

/-- One discharged slot decided, counted and, for a REJECT, acted on (08 R137 steps 1 to 3). -/
def State.dischargeSlot (s : State) (l : Lane) (x : Slot) : State :=
  let t := s.onBank (countSlot s.settings l x)
  if slotFate s.settings l x = some .reject then t.giveAction (.flap l) else t

/-- The four slots of the gate position taken as one operation (08 R137, R146). -/
def State.dischargeRow (s : State) (r : Row) : State :=
  let t := Lane.all.foldl (fun t l => t.dischargeSlot l (r.lane l)) s
  if Lane.all.any fun l => decide (slotFate s.settings l (r.lane l) = some .sample) then
    t.giveAction .sample
  else t

/-- What the ADVANCE notice says of a discharged slot (02 R38). -/
def leftSlot (st : Settings) (l : Lane) (x : Slot) : LeftSlot :=
  match x with
  | .record c => .record c.serial (cardFate st.rules.toList l c)
  | .unknown => .unknown st.line.unknownPolicy.fate
  | .none => .none

/-- Every pending action dropped and every pulse stopped (08 R147). -/
def DischargeUnit.dropActions (d : DischargeUnit) : DischargeUnit :=
  { d with flaps := Quad.const ⟨none, none⟩, sample := ⟨none, none⟩ }

/-- REJ-A to REJ-D: asserted while the lane's pulse runs (08 R144). -/
def State.rejLine (s : State) (l : Lane) : Bool := (s.discharge.flaps.lane l).pulse.isSome

/-- SAMPLE: asserted while its pulse runs (08 R146). -/
def State.sampleLine (s : State) : Bool := s.discharge.sample.pulse.isSome

end Sys2Proof.Machine
end

