-- ==== Sys2Proof/Machine/Counts.lean ====
section
/-! DEFINITION. The count requests (08 section 8.5), and the due times and pulse ends of the flaps and the
sample output (08 R145). -/

namespace Sys2Proof.Machine

/-- LATCH_COUNTS (08 R149). -/
def execLatchCounts (dest : Dest) (p : List Byte) (s : State) : Out :=
  serveTo dest (.latchCounts dest p) 0x50#8 p s fun s =>
    if s.starting then refuse s .busy
    else if s.discharge.snapshot.isSome then refuse s .already
    else
      (s.setDischarge { s.discharge with snapshot := some ⟨s.discharge.bank, s.track.advances⟩ }, alone .ok)

/-- READ_COUNTS (08 R150). -/
def execReadCounts (p : List Byte) (s : State) : Out :=
  serve (.readCounts p) 0x51#8 p s fun s =>
    match s.discharge.snapshot with
    | some k => (s.setDischarge { s.discharge with snapshot := none }, countsBytes 1 k.advances k.bank)
    | none => (s, countsBytes 0 s.track.advances s.discharge.bank)

/-- The bank cleared: every count 0 and each entered count at the lane's live record count (08 R151). -/
def clearedBank (rows : List Row) : CounterBank :=
  { zeroBank with
    lanes := Quad.ofLanes fun l => { zeroLaneCounts with entered := satAdd 0#32 (liveCount rows l) } }

/-- CLEAR_COUNTS (08 R151). -/
def execClearCounts (p : List Byte) (s : State) : Out :=
  serve (.clearCounts p) 0x52#8 p s fun s =>
    if s.starting then refuse s .busy
    else
      (s.setDischarge { s.discharge with bank := clearedBank s.track.rows, snapshot := none }, alone .ok)

/-- FLAP_DUE: a pending action reaches its due time, fires and leaves the slot (08 R145). Nothing where the
slot is empty. -/
def execFlapDue (o : GateOutput) (s : State) : Out :=
  .next (match (s.discharge.gate o).pending with
    | some d =>
      if s.running then
        let t := s.reach d
        t.setDischarge (t.discharge.setGate o
          { (t.discharge.gate o).fire t.now (gatePulseOf t.settings.line o) with pending := none })
      else s
    | none => s)

/-- FLAP_PULSE_END: a pulse reaches its end time and its output drops (08 R145). Nothing where no pulse
runs. -/
def execFlapPulseEnd (o : GateOutput) (s : State) : Out :=
  .next (match (s.discharge.gate o).pulse with
    | some d =>
      if s.running then
        let t := s.reach d
        t.setDischarge (t.discharge.setGate o { t.discharge.gate o with pulse := none })
      else s
    | none => s)

end Sys2Proof.Machine
end

