-- ==== Sys2Proof/Config.lean ====
section
/-! DEFINITION. What the manual fixes for every part, and the two values it leaves open. -/

namespace Sys2Proof.Config

/-- The family code that IDENTIFY returns (11 section 11.5). -/
def familyCode : Nat := 0x3B

/-- The revision code that IDENTIFY returns (11 section 11.5). -/
def revisionCode : Nat := 0x01

/-- The largest payload of a frame (11 section 11.1). -/
def maxPayload : Nat := 250

/-- FREE VALUE (assumption 5, DESIGN CHOICE): whether the Press Sequencer takes the k-th index event that
both blocks answer before the Track Unit does. 02 R39 and 05 R96 let either be first; the track is the
same either way and the order of the notices is not. It has no body, so nothing rests on a choice. -/
opaque pressTakesIndexFirst : Nat → Bool

/-- FREE VALUE (assumption 15, DESIGN CHOICE): whether the values "before" in a GRADE notice of cause CONFLICT
are those before the ADVERTISE GRADES (true) or those its restore left (false). 07 R133 and R134 put the event
after the restore and do not say which. It has no body, so nothing rests on a choice. -/
opaque conflictBeforeIsRequest : Bool

end Sys2Proof.Config
end

