-- ==== Sys2Proof/Machine/Dose.lean ====
section
/-! DEFINITION. The Zone Sampler's classification and health (04 sections 4.1, 4.2) and the Dose Unit's
arithmetic and verdicts (04 sections 4.4 to 4.6). -/

namespace Sys2Proof.Machine

/-! ## Zone samples -/

/-- The class of a zone code, by its value alone (04 R65). -/
def classify (code : BitVec 12) : SampleClass :=
  if code.toNat ≤ 39 then .shorted else if code.toNat ≤ 3999 then .valid else .openCircuit

/-- A zone's health, held code and recovery count moved by one sample, and the kind of the ZONE event that
a change of health raises (04 R66, R67). -/
def zoneStep (z : ZoneRecord) (code : BitVec 12) : ZoneRecord × Option ZoneKind :=
  match classify code, z.health with
  | .valid, .healthy => (⟨.healthy, code, 0⟩, none)
  | .valid, .faulted =>
    if z.recovery < 7 then (⟨.faulted, code, z.recovery + 1⟩, none)
    else (⟨.healthy, code, 0⟩, some .recovered)
  | .openCircuit, .healthy => (⟨.faulted, z.held, 0⟩, some .openCircuit)
  | .shorted, .healthy => (⟨.faulted, z.held, 0⟩, some .shorted)
  | .openCircuit, .faulted => (⟨.faulted, z.held, 0⟩, none)
  | .shorted, .faulted => (⟨.faulted, z.held, 0⟩, none)

/-- The ZONE notices of a tick, zone-ascending (04 R68). -/
def zoneNotices (before : Quad ZoneRecord) (codes : Quad (BitVec 12)) : List Notice :=
  Zone.all.filterMap fun z =>
    let r := zoneStep (before.zone z) (codes.zone z)
    r.2.map fun kind => .zone z r.1.health kind (codes.zone z) r.1.held

/-- Steps 1 to 3 of a tick: the zones moved, the pressure stored, the ZONE events raised (04 R64). -/
def State.sampleZones (s : State) (codes : Quad (BitVec 12)) (px : BitVec 10) : State :=
  let zones := Quad.ofZones fun z => (zoneStep (s.zones.zone.zone z) (codes.zone z)).1
  (zoneNotices s.zones.zone codes).foldl State.raise
    (s.setZones ⟨zones, px, s.zones.nextTick + 4⟩)

/-! ## The dose -/

/-- The excess of a zone code above the activation code, capped at 400 (04 R74). -/
def excess (t a : Nat) : Nat := if a < t then min (t - a) 400 else 0

/-- The pressure factor, eight fraction bits, capped at 512 (04 R75). -/
def pressureFactor (p pRef : Nat) : Nat := min (p * 256 / pRef) 512

/-- The contribution of one lane for one sample (04 R76). -/
def contribution (e f : Nat) : Nat := e * f / 256

/-- A dose with a contribution added, held at 65535 (04 R77). -/
def addDose (d c : Nat) : Nat := min (d + c) 65535

/-- A lane turned blind where its zone is FAULTED (04 R79). -/
def StrokeLane.lookAt (k : StrokeLane) (zones : Quad ZoneRecord) : StrokeLane :=
  if (zones.zone k.zone).health = .faulted then { k with blind := true } else k

/-- A sighted lane's dose increased by one sample's contribution (04 R73). -/
def StrokeLane.sample (k : StrokeLane) (codes : Quad (BitVec 12)) (px : BitVec 10) : StrokeLane :=
  let c := contribution (excess (codes.zone k.zone).toNat k.tAct) (pressureFactor px.toNat k.pRef)
  if k.blind then k else { k with dose := addDose k.dose c }

/-- A lane's verdict at termination (04 R80, R81). -/
def StrokeLane.verdict (k : StrokeLane) : Verdict :=
  if k.blind then .sensor
  else if k.dose < k.doseMin then .underbond
  else if k.doseMax < k.dose then .scorch
  else .bonded

end Sys2Proof.Machine
end

