-- ==== Sys2Proof/Machine/Rhythm.lean ====
section
/-! DEFINITION. The Rhythm Monitor (06): the expected period, judging an index, the rhythm states, the
stall, the restore-idle timer and the change of the expected period. -/

namespace Sys2Proof.Machine

/-- The period of a grade (07 R120). -/
def periodOf (c : LineConfig) (g : Grade) : Nat :=
  match g with
  | .g1 => c.periods.q0
  | .g2 => c.periods.q1
  | .g3 => c.periods.q2
  | .g4 => c.periods.q3

/-- The expected period E: the period of the advised grade (06 R107). -/
def State.expectedPeriod (s : State) : Nat := periodOf s.settings.line s.grade.advised

/-- The lower bound of an interval in tolerance (06 R107). -/
def lowerBound (period tol : Nat) : Nat := period * (100 - tol) / 100

/-- The upper bound of an interval in tolerance (06 R107). -/
def upperBound (period tol : Nat) : Nat := period * (100 + tol) / 100

/-- The stall timer: ms since the last accepted index, held at 65535 (06 R106). -/
def State.stallTimer (s : State) : Nat := min 65535 (s.now - s.rhythm.stallStart)

/-- The judgement of an index by its interval alone (06 R107). -/
def judgeInterval (period tol interval : Nat) : Judgement :=
  if interval < lowerBound period tol then .short
  else if upperBound period tol < interval then .long
  else .inside

/-- The judgement of an index: with WARN in use, NO_WARNING where no warning came (06 R108). -/
def State.judgeIndex (s : State) (interval : Nat) : Judgement :=
  if s.settings.line.warnInUse && !s.rhythm.warnSeen then .noWarning
  else judgeInterval s.expectedPeriod s.settings.line.tol interval

/-- The predicted release deadline of an index taken now (06 R116). -/
def State.newDeadline (s : State) : Nat :=
  s.now + (lowerBound s.expectedPeriod s.settings.line.tol - s.settings.line.releaseLead)

/-- A RHYTHM event for a change of state from `before` (06 R115). -/
def State.rhythmEvent (s : State) (before : RhythmState) (cause : RhythmCause) (j : Judgement)
    (interval : Nat) : State :=
  s.raise (.rhythm before s.rhythm.state cause j interval s.expectedPeriod s.grade.advised)

/-- The stall: the rhythm enters STOPPED and the restore-idle timer starts (06 R113). -/
def State.takeStall (s : State) : State :=
  (s.setRhythm { s.rhythm with
    state := .stopped, good := 0, slip := 0, deadline := none,
    restoreStart := some s.now, signalGiven := false }).rhythmEvent s.rhythm.state .stall .none 0

/-- A stall taken at once where the timer already stands at or past three times E (06 R113). -/
def State.stallIfDue (s : State) : State :=
  if s.rhythm.state ≠ .stopped ∧ 3 * s.expectedPeriod ≤ s.stallTimer then s.takeStall else s

/-- A change of advised grade, or of its period, taken by the Rhythm Monitor (06 R114), with the stall that
the new period may bring at once (06 R113). -/
def State.periodChange (s : State) : State :=
  (match s.rhythm.state with
   | .locked =>
     (s.setRhythm { s.rhythm with state := .acquiring, good := 0, slip := 0, deadline := none }).rhythmEvent
       .locked .grade .none 0
   | .slipping =>
     (s.setRhythm { s.rhythm with state := .acquiring, good := 0, slip := 0, deadline := none }).rhythmEvent
       .slipping .grade .none 0
   | .acquiring => s.setRhythm { s.rhythm with good := 0 }
   | .stopped => s).stallIfDue

/-- The rhythm's answer to an index in STOPPED (06 R109). -/
def State.indexStopped (s : State) : State :=
  (s.setRhythm { s.rhythm with
    state := .acquiring, good := 0, slip := 0, lastInterval := 0,
    restoreStart := none }).rhythmEvent .stopped .index .none 0

/-- The rhythm locked by an index taken now (06 R110, R112). -/
def State.lockRhythm (s : State) (interval : Nat) : State :=
  (s.setRhythm { s.rhythm with
    state := .locked, good := 0, slip := 0, deadline := some s.newDeadline }).rhythmEvent
      s.rhythm.state .index .inside interval

/-- The rhythm's answer to an index in ACQUIRING (06 R110). -/
def State.indexAcquiring (s : State) (j : Judgement) (interval : Nat) : State :=
  if j = .inside then
    if s.settings.line.lockCount ≤ s.rhythm.good + 1 then s.lockRhythm interval
    else s.setRhythm { s.rhythm with good := s.rhythm.good + 1 }
  else s.setRhythm { s.rhythm with good := 0 }

/-- The rhythm's answer to an index in LOCKED (06 R111). -/
def State.indexLocked (s : State) (j : Judgement) (interval : Nat) : State :=
  if j = .inside then s.setRhythm { s.rhythm with deadline := some s.newDeadline }
  else
    (s.setRhythm { s.rhythm with state := .slipping, slip := 1, deadline := none }).rhythmEvent
      .locked .index j interval

/-- The rhythm's answer to an index in SLIPPING (06 R112). -/
def State.indexSlipping (s : State) (j : Judgement) (interval : Nat) : State :=
  if j = .inside then s.lockRhythm interval
  else if s.settings.line.slipLimit ≤ s.rhythm.slip + 1 then
    (s.setRhythm { s.rhythm with state := .acquiring, good := 0, slip := 0 }).rhythmEvent
      .slipping .index j interval
  else s.setRhythm { s.rhythm with slip := s.rhythm.slip + 1 }

/-- Steps 1 and 2 of an accepted edge: the interval measured, the index judged, the state moved (06 R105). -/
def State.judgeEdge (s : State) : State :=
  let interval := s.stallTimer
  let j := s.judgeIndex interval
  let t := s.setRhythm { s.rhythm with lastInterval := interval }
  match s.rhythm.state with
  | .stopped => s.indexStopped
  | .acquiring => t.indexAcquiring j interval
  | .locked => t.indexLocked j interval
  | .slipping => t.indexSlipping j interval

/-- Step 3 of an accepted edge: the stall timer restarts and the warning-seen flag is cleared (06 R105). -/
def State.restartStall (s : State) : State :=
  s.setRhythm { s.rhythm with stallStart := s.now, warnSeen := false, lastEdge := some s.now }

/-- Whether an edge now is accepted: the first, or 20 ms or more after the last accepted (06 R105). -/
def State.acceptsEdge (s : State) : Bool :=
  match s.rhythm.lastEdge with
  | none => true
  | some t => decide (t + 20 ≤ s.now)

end Sys2Proof.Machine
end

