-- ==== Sys2Proof/Machine/Grades.lean ====
section
/-! DEFINITION. The Grade Selector (07): the common set, the floor and the advised grade, the outcomes of
strokes, and the restore. -/

namespace Sys2Proof.Machine

/-- The lines GRADE[1:0] for an advised grade (07 R120). -/
def gradeLines (g : Grade) : BitVec 2 := BitVec.ofNat 2 g.code

/-- The common set: the capability mask with the grades allowed of each enabled lane's recipe (07 R122). -/
def commonSet (st : Settings) (capability : GradeSet) : GradeSet :=
  Lane.all.foldl
    (fun acc l => if st.enabled l then acc &&& (st.recipe (st.assigned.lane l)).grades else acc) capability

/-- The fastest grade in a set that is not faster than a floor (07 R123). -/
def fastestFrom (set : GradeSet) (floor : Grade) : Option Grade :=
  Grade.all.find? fun g => set.has g && decide (floor.code ≤ g.code)

/-- The fastest grade in a set that is slower than a grade (07 R127). -/
def fastestSlower (set : GradeSet) (than : Grade) : Option Grade :=
  Grade.all.find? fun g => set.has g && decide (than.code < g.code)

/-- The slowest grade in a set that is faster than a grade (07 R129). -/
def slowestFaster (set : GradeSet) (than : Grade) : Option Grade :=
  Grade.all.reverse.find? fun g => set.has g && decide (g.code < than.code)

/-- The advised grade and its lines computed anew; the grade is held where the set offers none (07 R123,
R124). -/
def GradeUnit.advise (g : GradeUnit) : GradeUnit :=
  let a := (fastestFrom g.common g.floor).getD g.advised
  { g with advised := a, lines := gradeLines a }

/-- A GRADE event; `before` is the selector before the operation (07 R134). -/
def State.gradeEvent (s : State) (cause : GradeCause) (source : RestoreSource) (before : GradeUnit) : State :=
  s.raise (.grade cause source before.floor s.grade.floor before.advised s.grade.advised s.grade.common
    s.grade.strike)

/-- A change of advised grade handed to the Rhythm Monitor; nothing where it has not changed (07 R125). -/
def State.handGrade (s : State) (before : Grade) : State :=
  if s.grade.advised = before then s else s.periodChange

/-- The common set recomputed from the working settings, without a restore (07 R122, R133). -/
def State.recomputeCommon (s : State) : State :=
  s.setGrade { s.grade with common := commonSet s.settings s.grade.capability }.advise

/-- The selector at full speed: floor G1 and the counts 0 (07 R130). -/
def GradeUnit.restored (g : GradeUnit) : GradeUnit :=
  { g with floor := .g1, strike := 0, cleanRun := 0, recovery := 0 }.advise

/-- The restore (07 R130): a GRADE event where the advised grade changes. -/
def State.restore (s : State) (source : RestoreSource) : State :=
  let t := s.setGrade s.grade.restored
  if t.grade.advised = s.grade.advised then t
  else (t.gradeEvent .restore source s.grade).handGrade s.grade.advised

/-- A recomputation that restores the floor when the set has changed (07 R133). -/
def State.recomputeRestoring (s : State) (source : RestoreSource) : State :=
  let common := commonSet s.settings s.grade.capability
  if common = s.grade.common then s
  else (s.setGrade { s.grade with common := common }).restore source

/-- The GRADE event with cause CONFLICT and its flag (07 R124, R134). `asked` is the selector before the
request; whether the notice's values before the event are those or the ones that the request's restore left is a
free value (assumption 15). -/
def State.conflictEvent (s : State) (asked : GradeUnit) : State :=
  (s.setFlag .gradeConflict).gradeEvent .conflict .none (if Config.conflictBeforeIsRequest then asked else s.grade)

/-- A downgrade to a slower grade (07 R127). -/
def State.downgrade (s : State) (dest : Grade) : State :=
  ((s.setGrade { s.grade with floor := dest, advised := dest, lines := gradeLines dest, strike := 0 }).onBank
    fun b => { b with downgrades := satInc b.downgrades }).gradeEvent .downgrade .none s.grade |>.handGrade
      s.grade.advised

/-- The hold at the slowest grade (07 R128). -/
def State.limitHold (s : State) : State :=
  ((s.setGrade { s.grade with strike := 0 }).setFlag .sealLimit).gradeEvent .limit .none s.grade

/-- A recovery (07 R129). -/
def State.recoverGrade (s : State) : State :=
  let floor := (slowestFaster s.grade.common s.grade.advised).getD .g1
  ((s.setGrade { s.grade with floor := floor, recovery := 0 }.advise).gradeEvent .recover .none
    s.grade).handGrade s.grade.advised

/-- A failing outcome: a strike, then the test of 07 R127 and R128. -/
def State.failingOutcome (s : State) : State :=
  let t := s.setGrade { s.grade with strike := s.grade.strike + 1, cleanRun := 0, recovery := 0 }
  if s.settings.line.strikeLimit ≤ t.grade.strike then
    match fastestSlower t.grade.common t.grade.advised with
    | some g => t.downgrade g
    | none => t.limitHold
  else t

/-- The clean-run count of a clean outcome; at `clean_run` the strikes are forgiven (07 R126). -/
def GradeUnit.countClean (g : GradeUnit) (cleanRun : Nat) : GradeUnit :=
  if cleanRun ≤ g.cleanRun + 1 then { g with strike := 0, cleanRun := 0 }
  else { g with cleanRun := g.cleanRun + 1 }

/-- A clean outcome: the clean-run count first, the recovery count second (07 R126, R129). -/
def State.cleanOutcome (s : State) : State :=
  let cfg := s.settings.line
  let g := s.grade.countClean cfg.cleanRun
  if g.floor ≠ .g1 ∧ 0 < cfg.recoverRun then
    let t := s.setGrade { g with recovery := g.recovery + 1 }
    if cfg.recoverRun ≤ t.grade.recovery then t.recoverGrade else t
  else s.setGrade g

/-- A stroke outcome taken by the Grade Selector (07 R126). -/
def State.takeOutcome (s : State) (o : StrokeOutcome) : State :=
  match o with
  | .failing => s.failingOutcome
  | .clean => s.cleanOutcome
  | .neither => s.setGrade { s.grade with cleanRun := 0, recovery := 0 }

/-- The selector as a reset sets it, with no event (07 R135): a restore over the recomputed set. -/
def GradeUnit.afterReset (g : GradeUnit) (st : Settings) : GradeUnit :=
  { g with common := commonSet st g.capability }.restored

/-! ## The restore-idle signal (06 R118, 07 R132) -/

/-- The signal given: noted, and the floor restored with source IDLE. -/
def State.giveRestoreIdle (s : State) : State :=
  (s.setRhythm { s.rhythm with signalGiven := true }).restore .idle

/-- The signal given at once where the timer stands at or past `restore_idle` and the spell's signal has not
been given (01 R8, 06 R118). -/
def State.restoreIdleIfDue (s : State) : State :=
  match s.rhythm.restoreStart with
  | some t =>
    if s.rhythm.state = .stopped ∧ s.rhythm.signalGiven = false ∧
        t + 1000 * s.settings.line.restoreIdle ≤ s.now then s.giveRestoreIdle
    else s
  | none => s

/-- New working settings handed on as an accepted CONFIGURE LINE hands on a line configuration (01 R7, 10
R184): the track rebuilt, the common set recomputed, a change of the advised grade or of its period taken by
the Rhythm Monitor (06 R114, 07 R125), and the restore-idle timer held against its new limit (01 R8; assumption
19). -/
def State.installSettings (s : State) (st : Settings) : State :=
  let t := (s.setSettings st).rebuildTrack.recomputeCommon
  (if t.grade.advised = s.grade.advised ∧ t.expectedPeriod = s.expectedPeriod then t
   else t.periodChange).restoreIdleIfDue

end Sys2Proof.Machine
end

