-- ==== Sys2Proof/Machine/Stroke.lean ====
section
/-! DEFINITION. The stroke (05): its start, its samples, its termination, the release, and the halt
requests of the Press Sequencer with the Mode Controller's answer (05 R103, 09 R158). -/

namespace Sys2Proof.Machine

/-- Whether a stroke is closing or dwelling. -/
def PressState.inStroke : PressState → Bool
  | .closing => true
  | .dwell => true
  | .opened => false
  | .settling => false
  | .releasing => false
  | .stuck => false

/-! ## The seal part, by serial (02 R23) -/

/-- The first write of a seal part: PRESSING on a record whose seal part is absent. -/
def State.writePressing (s : State) (serial : Serial) : State :=
  match s.findCard serial with
  | some f => if f.card.sealPart.isNone then s.putCard f { f.card with sealPart := some .pressing } else s
  | none => s

/-- The final write of a seal part with the marks of the same record, on a record whose seal part is
PRESSING; false where the write is dropped (02 R23, R24; 05 R97). -/
def State.writeFinal (s : State) (serial : Serial) (x : SealPart) (ks : List MarkKind) : State × Bool :=
  match s.findCard serial with
  | some f =>
    if f.card.sealPart = some .pressing then
      (s.putCard f ({ f.card with sealPart := some x }.addMarks ks), true)
    else (s, false)
  | none => (s, false)

/-! ## Termination (05 R97 to R100) -/

/-- Whether a cause cuts a stroke short (05 R98 step 3). -/
def EndCause.cuts : EndCause → Bool
  | .warning => true
  | .predicted => true
  | .stop => true
  | .index => true
  | .complete => false
  | .dwellLimit => false
  | .closeTimeout => false

/-- Whether DWELL_CUT is called for on a lane (05 R98 step 3). -/
def StrokeLane.cut (k : StrokeLane) (cause : EndCause) : Bool :=
  cause.cuts && !k.blind && decide (k.dose < k.doseTarget)

/-- The mark of a verdict (04 R80, R81). -/
def Verdict.marks : Verdict → List MarkKind
  | .bonded => []
  | .underbond => [.underbond]
  | .scorch => [.scorch]
  | .sensor => [.sensor]

/-- The marks a termination adds to a participating record, in order (05 R98). -/
def StrokeLane.endMarks (k : StrokeLane) (cause : EndCause) (startLocked : Bool) : List MarkKind :=
  k.verdict.marks ++ (if cause = .closeTimeout then [.notSealed] else []) ++
    (if k.cut cause then [.dwellCut] else []) ++ (if startLocked then [] else [.cadence]) ++
    (if cause = .index then [.indexClosed] else [])

/-- One participating lane's final write, and what the STROKE notice says of it (05 R97 steps 3 and 4). -/
def finishLane (ctx : StrokeContext) (cause : EndCause) (acc : State × Quad (Option StrokeReport))
    (k : StrokeLane) : State × Quad (Option StrokeReport) :=
  let w := acc.1.writeFinal k.serial (.final k.verdict cause k.dose ctx.n) (k.endMarks cause ctx.startLocked)
  (w.1, acc.2.setLane k.lane (some ⟨w.2, k.serial, k.dose, k.verdict⟩))

/-- The outcome of a stroke (05 R100). -/
def StrokeContext.outcome (ctx : StrokeContext) (cause : EndCause) : StrokeOutcome :=
  if ctx.lanes.any (fun k => decide (k.verdict = .underbond) || k.cut cause) then .failing
  else if ctx.lanes.any (fun k => !k.blind) &&
      ctx.lanes.all (fun k => k.blind || decide (k.verdict = .bonded)) then .clean
  else .neither

/-- The outcome handed over; a failing stroke is counted in the bank (05 R100). -/
def State.handOutcome (s : State) (o : StrokeOutcome) : State :=
  (if o = .failing then s.onBank fun b => { b with failing := satInc b.failing } else s).takeOutcome o

/-- The press released: OPEN at once where open confirmation holds, otherwise RELEASING on the open timer
(05 R82, R97 step 7). -/
def State.releasePress (s : State) : State :=
  if s.openConfirmed then
    s.setPress { s.press with state := .opened, stroke := none, openDue := none }
  else
    s.setPress { s.press with
      state := .releasing, stroke := none, openDue := some (s.now + s.settings.line.openTimeout) }

/-- Steps 1 to 6 of the termination of a stroke (05 R97). -/
def State.finishStroke (s : State) (ctx : StrokeContext) (cause : EndCause) : State :=
  let r := ctx.lanes.foldl (finishLane ctx cause) (s, Quad.const none)
  (r.1.raise (.stroke ctx.number cause ctx.n ctx.startLocked r.2)).handOutcome (ctx.outcome cause)

/-- The termination of the stroke in flight, one operation (05 R97). -/
def State.terminate (s : State) (cause : EndCause) : State :=
  let t := s.setPress { s.press with pressClose := false, closeDue := none }
  match s.press.stroke with
  | some ctx => (t.finishStroke ctx cause).releasePress
  | none => t.releasePress

/-- The stroke terminated if one is closing or dwelling; otherwise nothing (05 R95). -/
def State.terminateAny (s : State) (cause : EndCause) : State :=
  if s.press.state.inStroke then s.terminate cause else s

/-! ## Halt requests (05 R103, 09 R158) -/

/-- A halt request as the Mode Controller takes it: only in RUN. -/
def State.haltRequest (s : State) (c : HaltCause) : State :=
  if s.mode.mode = .run then
    ((s.terminateAny .stop).enterMode .halted c).modeEvent .run .halted (.halt c)
  else s

/-! ## The start of a stroke (05 R86 to R88) -/

/-- A participating lane's entry (05 R87), blind from the start where its zone is FAULTED (04 R78). -/
def State.strokeLane (s : State) (l : Lane) (c : CardRecord) : StrokeLane :=
  let r := s.settings.recipe c.recipe
  let z := s.settings.line.zoneMap.lane l
  ⟨l, c.serial, z, r.tAct, r.pRef, r.doseMin, r.doseTarget, r.doseMax, r.dwellMin, r.dwellMax,
   decide ((s.zones.zone.zone z).health = .faulted), 0⟩

/-- The participating lanes: a record at `p_seal` with its seal part absent (05 R87). -/
def State.participants (s : State) : List StrokeLane :=
  Lane.all.filterMap fun l =>
    match (slotAt s.track.rows s.settings.line.pSeal l).card with
    | some c => if c.sealPart.isNone then some (s.strokeLane l c) else none
    | none => none

/-- n_limit: the smallest `dwell_max`, capped where the stroke starts unlocked and WARN is not in use
(05 R88). -/
def strokeLimit (lanes : List StrokeLane) (startLocked warnInUse : Bool) (cap : Nat) : Nat :=
  let m := ((lanes.map StrokeLane.dwellMax).min?).getD cap
  if startLocked || warnInUse then m else min m cap

/-- DWELL entered on closed confirmation (05 R90). -/
def State.enterDwell (s : State) : State :=
  s.setPress { s.press with state := .dwell, closeDue := none, closeTimeouts := 0 }

/-- Condition 3 of a stroke start: not LOCKED, or the deadline lies after the present moment (05 R86). -/
def State.deadlineAhead (s : State) : Bool :=
  if s.rhythm.state = .locked then
    match s.rhythm.deadline with
    | some d => decide (s.now < d)
    | none => false
  else true

/-- The four start conditions (05 R86). -/
def State.mayStroke (s : State) : Bool :=
  decide (s.mode.mode = .run) && !(s.settings.line.warnInUse && s.pins.warn) && s.deadlineAhead &&
    !s.participants.isEmpty

/-- A stroke begun, its parts in the order of 05 R86. -/
def State.beginStroke (s : State) : State :=
  let lanes := s.participants
  let locked := decide (s.rhythm.state = .locked)
  let number := s.press.strokes + 1#32
  let limit := strokeLimit lanes locked s.settings.line.warnInUse s.settings.line.unlockedDwellCap
  let t := (s.setPress { s.press with
      state := .closing, pressClose := true, settleDue := none,
      closeDue := some (s.now + s.settings.line.closeTimeout), strokes := number,
      stroke := some ⟨number, locked, 0, limit, lanes⟩ }).onBank fun b => { b with strokes := satInc b.strokes }
  let u := (lanes.map StrokeLane.serial).foldl State.writePressing t
  if u.closedConfirmed then u.enterDwell else u

/-- A settle given up: the press back in OPEN (05 R84 to R86). -/
def State.abandonSettle (s : State) : State :=
  s.setPress { s.press with state := .opened, settleDue := none }

/-! ## Samples (05 R91, R93) -/

/-- COMPLETE: every sighted lane at target and n at every lane's `dwell_min` (05 R93). -/
def StrokeContext.isComplete (ctx : StrokeContext) : Bool :=
  ctx.lanes.all fun k => (k.blind || decide (k.doseTarget ≤ k.dose)) && decide (k.dwellMin ≤ ctx.n)

/-- The stroke context after one sample in DWELL (05 R91 steps 1 and 2). -/
def StrokeContext.sampled (ctx : StrokeContext) (zones : Quad ZoneRecord) (codes : Quad (BitVec 12))
    (px : BitVec 10) : StrokeContext :=
  { ctx with n := ctx.n + 1, lanes := ctx.lanes.map fun k => (k.lookAt zones).sample codes px }

/-- The stroke context after a tick in CLOSING: the blind flags alone (05 R91 step 1). -/
def StrokeContext.watched (ctx : StrokeContext) (zones : Quad ZoneRecord) : StrokeContext :=
  { ctx with lanes := ctx.lanes.map fun k => k.lookAt zones }

/-- The tests after a sample, COMPLETE first (05 R93). -/
def State.testSample (s : State) (ctx : StrokeContext) : State :=
  if ctx.isComplete then s.terminate .complete
  else if ctx.n = ctx.nLimit then s.terminate .dwellLimit
  else s

/-- A tick taken by the Press Sequencer (05 R91). -/
def State.strokeTick (s : State) (codes : Quad (BitVec 12)) (px : BitVec 10) : State :=
  match s.press.stroke with
  | some ctx =>
    if s.press.state = .dwell then
      let c := ctx.sampled s.zones.zone codes px
      (s.setPress { s.press with stroke := some c }).testSample c
    else if s.press.state = .closing then
      s.setPress { s.press with stroke := some (ctx.watched s.zones.zone) }
    else s
  | none => s

/-! ## The press and the index event (05 R84, R96, R102) -/

/-- What an index event does to the press. -/
def State.pressIndex (s : State) : State :=
  match s.press.state with
  | .opened =>
    if s.mode.mode = .run then
      s.setPress { s.press with state := .settling, settleDue := some (s.now + s.settings.line.settle) }
    else s
  | .settling => s.abandonSettle.haltRequest .indexClosed
  | .closing => (s.terminate .index).haltRequest .indexClosed
  | .dwell => (s.terminate .index).haltRequest .indexClosed
  | .releasing => s.haltRequest .indexClosed
  | .stuck => s.haltRequest .indexClosed

/-- The press as a reset takes it from its switches: OPEN, or RELEASING on the open timer (05 R104). -/
def State.pressFromSwitches (s : State) : State :=
  s.setPress { s.press with
    state := if s.openConfirmed then .opened else .releasing
    pressClose := false
    settleDue := none
    closeDue := none
    openDue := if s.openConfirmed then none else some (s.now + s.settings.line.openTimeout)
    stroke := none
    closeTimeouts := 0 }

/-- The switches come to show something: the press moves where that confirms what it waits for (05 R82,
R90, R101). -/
def State.switchesShow (s : State) (w : Switches) : State :=
  let t := s.setPins { s.pins with switches := w }
  if t.running then
    match t.press.state with
    | .closing => if closedShown w then t.enterDwell else t
    | .releasing => if openShown w then t.setPress { t.press with state := .opened, openDue := none } else t
    | .stuck => if openShown w then t.setPress { t.press with state := .opened, openDue := none } else t
    | .opened => t
    | .settling => t
    | .dwell => t
  else t

end Sys2Proof.Machine
end

