-- ==== Sys2Proof/Machine/Advance.lean ====
section
/-! DEFINITION. The advance (02 section 2.5) and the index event that brings it about (06 R105). -/

namespace Sys2Proof.Machine

/-- A new card record (02 R32). -/
def freshCard (serial : Serial) (recipe : Fin 16) : CardRecord :=
  ⟨serial, recipe, none, none, none, none, [], false⟩

/-- What enters position 0 of one lane, and the next serial after it (02 R25, R32). -/
def enterLane (st : Settings) (l : Lane) (next : Serial) : Slot × Serial :=
  if st.enabled l then (.record (freshCard next (st.assigned.lane l)), next + 1#16) else (.none, next)

/-- What enters position 0, lane A first, and the next serial after it. -/
def enterRow (st : Settings) (next : Serial) : Row × Serial :=
  let a := enterLane st .a next
  let b := enterLane st .b a.2
  let c := enterLane st .c b.2
  let d := enterLane st .d c.2
  (⟨a.1, b.1, c.1, d.1⟩, d.2)

/-- The serial that entered, if a record did. -/
def enteredSerial (x : Slot) : Option Serial := x.card.map CardRecord.serial

/-- A mark added to the record of a slot by the advance, if the slot holds a record that lacks a part; the
DEADLINE event where one is due (02 R33 to R35). -/
def State.markAt (s : State) (pos : Nat) (l : Lane) (k : MarkKind) (lacks : CardRecord → Bool)
    (deadline : Bool) : State :=
  match (slotAt s.track.rows pos l).card with
  | some c =>
    if lacks c then
      let r := c.addMark k
      let t := s.putCard ⟨pos, l, c⟩ r.1
      if deadline then t.raise (.deadline c.serial l pos k (decide (r.2 ≠ .overflowed))) else t
    else s
  | none => s

/-- The deadlines of one slot, FILL before PLACE before VISION (02 R33). -/
def State.deadlinesAt (s : State) (pos : Nat) (l : Lane) : State :=
  let c := s.settings.line
  let s := if pos = c.dFill then s.markAt pos l .fillMissing (fun r => r.fill.isNone) true else s
  let s := if pos = c.dPlace then s.markAt pos l .placeMissing (fun r => r.place.isNone) true else s
  if pos = c.dVision then s.markAt pos l .visionMissing (fun r => r.vision.isNone) true else s

/-- The deadline positions records move onto, ascending. -/
def deadlinePositions (c : LineConfig) : List Nat :=
  (List.range (c.pGate + 1)).filter fun q =>
    decide (1 ≤ q) && (decide (q = c.dFill) || decide (q = c.dPlace) || decide (q = c.dVision))

/-- The missing marks of an advance, position-ascending and lane-ascending (02 R33, R34). -/
def State.missingMarks (s : State) : State :=
  (deadlinePositions s.settings.line).foldl
    (fun t q => Lane.all.foldl (fun u l => u.deadlinesAt q l) t) s

/-- NOT_SEALED on the records moved onto `p_seal + 1` without a seal part (02 R35). -/
def State.notSealedMarks (s : State) : State :=
  Lane.all.foldl
    (fun t l => t.markAt (t.settings.line.pSeal + 1) l .notSealed (fun r => r.sealPart.isNone) false) s

/-- The entered counts of the lanes that received a record (02 R37). -/
def countEntered (r : Row) (b : CounterBank) : CounterBank :=
  Lane.all.foldl
    (fun b l => if (r.lane l).isRecord then b.onLane l fun k => { k with entered := satInc k.entered } else b) b

/-- The advance, one operation, its parts in the order of 02 R30 to R38. -/
def State.advance (s : State) : State :=
  let pGate := s.settings.line.pGate
  let gate := rowAt s.track.rows pGate
  let t := s.dischargeRow gate
  let entry := enterRow s.settings s.track.nextSerial
  let t := t.setTrack { t.track with
    rows := entry.1 :: t.track.rows.take pGate, nextSerial := entry.2 }
  let t := t.missingMarks.notSealedMarks
  let t := t.setTrack { t.track with advances := t.track.advances + 1#32 }
  let t := t.onBank (countEntered entry.1)
  t.raise (.advance t.track.advances (entry.1.map enteredSerial)
    (Quad.ofLanes fun l => leftSlot s.settings l (gate.lane l)))

/-- The Track Unit's answer to an index event: an advance in RUN and HALTED, nothing in IDLE and STARTING
(02 R29). -/
def State.trackIndex (s : State) : State := if s.tracking then s.advance else s

/-- The index event at the Track Unit and the Press Sequencer. Where the press is OPEN, or the mode is not
RUN, the two do not meet. Otherwise 02 R39 and 05 R96 let either be first: everything but the Notice Queue
is the same in both orders, and the free value says which order the notices have (assumption 5). -/
def State.handIndex (s : State) : State :=
  let a := s.trackIndex.pressIndex
  if s.press.state = .opened ∨ s.mode.mode ≠ .run then a
  else
    let b := s.pressIndex.trackIndex
    (a.setNotices (if Config.pressTakesIndexFirst s.freeDraws then b.notices else a.notices)).setFreeDraws
      (s.freeDraws + 1)

/-- An edge on INDEX, accepted or ignored (06 R105). -/
def State.indexEdge (s : State) : State :=
  if s.running && s.acceptsEdge then s.judgeEdge.restartStall.handIndex else s

end Sys2Proof.Machine
end

