-- ==== Sys2Proof/Machine/Reports.lean ====
section
/-! DEFINITION. The Report Unit: the station reports and LOOKUP (03). -/

namespace Sys2Proof.Machine

/-- The lane and position bytes of a reply about a record (11 section 11.5). -/
def Found.bytes (f : Found) : List Byte := [byte f.lane.number, byte f.position]

/-- Steps 1 to 4 of the acceptance decision: the reply that refuses the report, or the record it is accepted
for (03 R49). -/
def judgeReport (s : State) (serial : Serial) (present : CardRecord → Bool) (station deadline : Nat) :
    Except (List Byte) Found :=
  match s.findCard serial with
  | none => .error (alone .unknown)
  | some f =>
    if present f.card then .error (alone .repeated ++ f.bytes)
    else if f.position < station then .error (alone .early ++ f.bytes)
    else if deadline ≤ f.position then .error (alone .late ++ f.bytes)
    else .ok f

/-- Step 5: the record with its part written, and its mark added, if any (03 R49, R57). -/
def acceptReport (s : State) (f : Found) (c : CardRecord) (mark : Option MarkKind) (clamped : Bool) : Served :=
  let r : CardRecord × MarkResult :=
    match mark with
    | some k => c.addMark k
    | none => (c, .none)
  (s.putCard f r.1, alone (if clamped then .clamped else .ok) ++ f.bytes ++ [byte r.2.code])

/-- The mark of a fill report (03 R54). -/
def fillMark (items expected : Nat) : Option MarkKind :=
  if items < expected then some .fillShort else if expected < items then some .fillOver else none

/-- REPORT_FILL (03 R48, R49, R54). -/
def execReportFill (p : List Byte) (s : State) : Out :=
  serve (.reportFill p) 0x30#8 p s fun s =>
    if s.starting then refuse s .busy
    else
      match judgeReport s (BitVec.ofNat 16 (wordAt p 0)) (fun c => c.fill.isSome) 0 s.settings.line.dFill with
      | .error reply => (s, reply)
      | .ok f =>
        let items := clamp 0 15 (byteAt p 2)
        acceptReport s f { f.card with fill := some items }
          (fillMark items (s.settings.recipe f.card.recipe).items) (decide (15 < byteAt p 2))

/-- A registration offset clamped to −127 to +127 (03 R55). -/
def clampOffset (x : Int) : Int := if x < -127 then -127 else if 127 < x then 127 else x

/-- The mark of a placement report (03 R55). -/
def placeMark (q : PlacePart) (regTol : Nat) : Option MarkKind :=
  if q.present = false then some .cardMissing
  else if regTol < q.offset.natAbs then some .regOffset
  else none

/-- REPORT_PLACE (03 R48, R49, R55). -/
def execReportPlace (p : List Byte) (s : State) : Out :=
  serve (.reportPlace p) 0x31#8 p s fun s =>
    if s.starting then refuse s .busy
    else
      match judgeReport s (BitVec.ofNat 16 (wordAt p 0)) (fun c => c.place.isSome) s.settings.line.pPlace
          s.settings.line.dPlace with
      | .error reply => (s, reply)
      | .ok f =>
        let q : PlacePart := ⟨decide (0 < byteAt p 2), clampOffset (signedAt p 3)⟩
        acceptReport s f { f.card with place := some q }
          (placeMark q (s.settings.recipe f.card.recipe).regTol)
          (decide (1 < byteAt p 2) || decide (q.offset ≠ signedAt p 3))

/-- REPORT_VISION (03 R48, R49, R56). -/
def execReportVision (p : List Byte) (s : State) : Out :=
  serve (.reportVision p) 0x32#8 p s fun s =>
    if s.starting then refuse s .busy
    else
      match judgeReport s (BitVec.ofNat 16 (wordAt p 0)) (fun c => c.vision.isSome) s.settings.line.pVision
          s.settings.line.dVision with
      | .error reply => (s, reply)
      | .ok f =>
        let v : VisionPart := ⟨decide (0 < byteAt p 2), byte (byteAt p 3)⟩
        acceptReport s f { f.card with vision := some v } (if v.failed then some .visionFail else none)
          (decide (1 < byteAt p 2))

/-- LOOKUP (03 R62; 11 R188). -/
def execLookup (p : List Byte) (s : State) : Out :=
  serve (.lookup p) 0x33#8 p s fun s =>
    if s.starting then refuse s .busy
    else if s.settings.line.pGate < byteAt p 0 then refuse s .range
    else
      match laneOfCode (byteAt p 1) with
      | none => refuse s .range
      | some l =>
        (s, alone .ok ++ [byte (byteAt p 0), byte l.number] ++ be32 s.track.advances.toNat ++
          lookupSlotBytes (slotAt s.track.rows (byteAt p 0) l))

end Sys2Proof.Machine
end

