-- ==== Sys2Proof/Machine/Windows.lean ====
section
/-! DEFINITION. Marking by the line controller and the track window (02 section 2.6), and the window reads
(10 section 10.6). -/

namespace Sys2Proof.Machine

/-- MARK_CARD (02 R40). -/
def execMarkCard (p : List Byte) (s : State) : Out :=
  serve (.markCard p) 0x34#8 p s fun s =>
    if s.starting then refuse s .busy
    else
      match s.findCard (BitVec.ofNat 16 (wordAt p 0)) with
      | none => refuse s .unknown
      | some f =>
        let r := f.card.addMark .operator
        (s.putCard f r.1, alone .ok ++ [byte f.lane.number, byte f.position, byte r.2.code])

/-- SET_WINDOW (02 R41): clamped first, then the order checked. -/
def execSetWindow (p : List Byte) (s : State) : Out :=
  serve (.setWindow p) 0x40#8 p s fun s =>
    if s.starting then refuse s .busy
    else
      let w : Window := ⟨byteAt p 0, min (byteAt p 1) s.settings.line.pGate, min (byteAt p 2) 3, min (byteAt p 3) 3⟩
      if w.lastPos < w.firstPos ∨ w.lastLane < w.firstLane then refuse s .range
      else
        let clamped := w.lastPos ≠ byteAt p 1 ∨ w.firstLane ≠ byteAt p 2 ∨ w.lastLane ≠ byteAt p 3
        (s.setTrack { s.track with window := w },
          alone (if clamped then .clamped else .ok) ++
            [byte w.firstPos, byte w.lastPos, byte w.firstLane, byte w.lastLane])

/-- The positions of a window, ascending. -/
def Window.positions (w : Window) : List Nat :=
  (List.range (w.lastPos + 1 - w.firstPos)).map fun k => w.firstPos + k

/-- The lanes of a window, ascending. -/
def Window.lanes (w : Window) : List Lane :=
  Lane.all.filter fun l => decide (w.firstLane ≤ l.number ∧ l.number ≤ w.lastLane)

/-- The slots of a window, position-ascending and lane-ascending (02 R43, 10 R180). -/
def Window.slots (w : Window) : List (Nat × Lane) :=
  w.positions.flatMap fun q => w.lanes.map fun l => (q, l)

/-- What MARK WINDOW counts: appended, held already, overflowed (02 R43). -/
structure MarkTally where
  appended : Nat
  held : Nat
  overflowed : Nat
  deriving DecidableEq, Repr

/-- One result counted. -/
def MarkTally.count (m : MarkTally) (r : MarkResult) : MarkTally :=
  match r with
  | .appended => { m with appended := m.appended + 1 }
  | .heldAlready => { m with held := m.held + 1 }
  | .overflowed => { m with overflowed := m.overflowed + 1 }
  | .none => m

/-- One slot visited by MARK WINDOW: OPERATOR added to a record, the others passed over (02 R43). -/
def visitSlot (acc : List Row × MarkTally) (x : Nat × Lane) : List Row × MarkTally :=
  match (slotAt acc.1 x.1 x.2).card with
  | some c =>
    let r := c.addMark .operator
    (putSlot acc.1 x.1 x.2 (.record r.1), acc.2.count r.2)
  | none => acc

/-- MARK_WINDOW (02 R43). -/
def execMarkWindow (p : List Byte) (s : State) : Out :=
  serve (.markWindow p) 0x41#8 p s fun s =>
    if s.starting then refuse s .busy
    else
      let r := s.track.window.slots.foldl visitSlot (s.track.rows, ⟨0, 0, 0⟩)
      (s.setRows r.1, alone .ok ++ [byte r.2.appended, byte r.2.held, byte r.2.overflowed])

/-- The next chunk of a snapshot, and the snapshot with its cursor moved on past it (10 R181). -/
def chunkOf (s : State) (w : WindowSnapshot) : Served :=
  let part := (w.entries.drop w.cursor).take s.settings.returnSize
  let cursor := w.cursor + part.length
  let body := part.flatMap entryBytes
  (s.setLink { s.link with window := some { w with cursor := cursor } },
    alone .ok ++ [byte w.entries.length, byte (w.entries.length - cursor)] ++ be32 w.advances.toNat ++
      [byte part.length, byte w.cursor, byte body.length] ++ body)

/-- The snapshot of the window's slots as they stand (10 R180). -/
def State.windowSnapshot (s : State) : WindowSnapshot where
  entries := s.track.window.slots.map fun x => ⟨x.1, x.2, slotAt s.track.rows x.1 x.2⟩
  cursor := 0
  advances := s.track.advances

/-- READ_WINDOW (10 R180). -/
def execReadWindow (p : List Byte) (s : State) : Out :=
  serve (.readWindow p) 0x42#8 p s fun s =>
    if s.starting then refuse s .busy else chunkOf s s.windowSnapshot

/-- NEXT (10 R181). -/
def execNextChunk (p : List Byte) (s : State) : Out :=
  serve (.nextChunk p) 0x43#8 p s fun s =>
    if s.starting then refuse s .busy
    else
      match s.link.window with
      | some w => if w.cursor < w.entries.length then chunkOf s w else (s, alone .empty ++ [0#8])
      | none => (s, alone .empty ++ [0#8])

/-- ABORT (10 R182). -/
def execAbort (p : List Byte) (s : State) : Out :=
  serve (.abort p) 0x44#8 p s fun s =>
    if s.starting then refuse s .busy
    else
      match s.link.window with
      | some w =>
        (s.setLink { s.link with window := none }, alone .ok ++ [byte (w.entries.length - w.cursor)])
      | none => refuse s .already

end Sys2Proof.Machine
end

