-- ==== Sys2Proof/Machine/Edges.lean ====
section
/-! DEFINITION. The machine's edges, the sampling tick and the press and rhythm timers (04, 05, 06). -/

namespace Sys2Proof.Machine

/-- A request about the track taken by itself. -/
def takeTrackRequest (r : TrackRequest) (s : State) : Out :=
  match r with
  | .reportFill p => execReportFill p s
  | .reportPlace p => execReportPlace p s
  | .reportVision p => execReportVision p s
  | .lookup p => execLookup p s
  | .markCard p => execMarkCard p s
  | .markWindow p => execMarkWindow p s
  | .readWindow p => execReadWindow p s

/-- INDEX_EVENT (06 R105): an edge on INDEX after some milliseconds, with the request that is taken after the
advance and before the Press Sequencer's answer, if there is one (03 R60, R63; assumption 24). -/
def execIndexEvent (edge : IndexEdge) (s : State) : Out :=
  let t := s.elapse edge.after
  match edge.between with
  | none => .next t.indexEdge
  | some r =>
    if t.running && t.acceptsEdge then
      (takeTrackRequest r t.judgeEdge.restartStall.trackIndex).andThen fun u => .next u.pressIndex
    else takeTrackRequest r t

/-- A rising WARN edge at the Press Sequencer, with WARN in use (05 R85, R94). -/
def State.warnPress (s : State) : State :=
  match s.press.state with
  | .settling => s.abandonSettle
  | .closing => s.terminate .warning
  | .dwell => s.terminate .warning
  | .opened => s
  | .releasing => s
  | .stuck => s

/-- WARN comes to a level; a rising edge sets the warning-seen flag (06 R108) and reaches the press where
WARN is in use (05 R85). -/
def State.warnShows (s : State) (level : Bool) : State :=
  let t := s.setPins { s.pins with warn := level }
  if t.running && level then
    let u := t.setRhythm { t.rhythm with warnSeen := true }
    if u.settings.line.warnInUse then u.warnPress else u
  else t

/-- WARN_EDGE (06 R108, 05 R85, R94). -/
def execWarnEdge (after : Nat) (level : Bool) (s : State) : Out := .next ((s.elapse after).warnShows level)

/-- SETTLE_EXPIRY (05 R86). Nothing where no settle runs. -/
def execSettleExpiry (s : State) : Out :=
  .next (match s.press.settleDue with
    | some d =>
      if s.running && decide (s.press.state = .settling) then
        let t := s.reach d
        if t.mayStroke then t.beginStroke else t.abandonSettle
      else s
    | none => s)

/-- CLOSED_CONFIRMATION (05 R82, R90): the switches come to show something. -/
def execClosedConfirmation (after : Nat) (sw : Switches) (s : State) : Out :=
  .next ((s.elapse after).switchesShow sw)

/-- OPEN_CONFIRMATION (05 R82, R101): the switches come to show something. -/
def execOpenConfirmation (after : Nat) (sw : Switches) (s : State) : Out :=
  .next ((s.elapse after).switchesShow sw)

/-- A close timeout: the stroke terminated, the consecutive count increased and held at 255, and a halt
requested at 3 or more (05 R92). -/
def State.closeTimedOut (s : State) : State :=
  let t := s.terminate .closeTimeout
  let u := t.setPress { t.press with closeTimeouts := min (t.press.closeTimeouts + 1) 255 }
  if 3 ≤ u.press.closeTimeouts then u.haltRequest .pressClose else u

/-- CLOSE_TIMEOUT (05 R92). Nothing where no close timer runs. -/
def execCloseTimeout (s : State) : Out :=
  .next (match s.press.closeDue with
    | some d => if s.running && decide (s.press.state = .closing) then (s.reach d).closeTimedOut else s
    | none => s)

/-- OPEN_TIMEOUT (05 R101). Nothing where no open timer runs. -/
def execOpenTimeout (s : State) : Out :=
  .next (match s.press.openDue with
    | some d =>
      if s.running && decide (s.press.state = .releasing) then
        let t := s.reach d
        (t.setPress { t.press with state := .stuck, openDue := none }).haltRequest .pressOpen
      else s
    | none => s)

/-- SAMPLING_TICK (04 R64): the zones, the pressure, the ZONE events, then the stroke. -/
def execSamplingTick (codes : Quad (BitVec 12)) (px : BitVec 10) (s : State) : Out :=
  .next (if s.running then ((s.reach s.zones.nextTick).sampleZones codes px).strokeTick codes px else s)

/-- PREDICTED_DEADLINE (06 R116, 05 R94): the deadline of a LOCKED rhythm is reached. -/
def execPredictedDeadline (s : State) : Out :=
  .next (match s.rhythm.deadline with
    | some d =>
      if s.running && decide (s.rhythm.state = .locked) then (s.reach d).terminateAny .predicted else s
    | none => s)

end Sys2Proof.Machine
end

