-- ==== Sys2Proof/Machine/Frames.lean ====
section
/-! DEFINITION. The receiver and the reply: bytes, idle lines, discarded frames, and the reply begun, sent
or abandoned (10 sections 10.2, 10.3). -/

namespace Sys2Proof.Machine

/-- Whether the Link Port takes bytes: the part runs and no reply is on the pair (10 R167). -/
def State.receiving (s : State) : Bool := s.running && !s.link.driving

/-- Whether a byte discards the frame it joins: a length byte above 250, or a byte after a complete frame
(10 R168). -/
def overruns (buf : List Byte) (b : Byte) : Bool :=
  frameComplete buf || (decide (buf.length = 3) && decide (250 < b.toNat))

/-- The receiver sent to HUNT with its buffer empty. -/
def LinkUnit.toHunt (k : LinkUnit) : LinkUnit := { k with receiver := .hunt, buffer := [] }

/-- A byte taken by the receiver (10 R167, R168); a reply not yet begun is abandoned (10 R172). -/
def LinkUnit.take (k : LinkUnit) (b : Byte) : LinkUnit :=
  let k := { k with reply := .none }
  match k.receiver with
  | .hunt => k
  | .armed => if b = 0xA5#8 then { k with receiver := .frame, buffer := [b] } else k.toHunt
  | .frame => if overruns k.buffer b then k.toHunt else { k with buffer := k.buffer ++ [b] }

/-- LINK_BYTE_RECEIVED (10 R167). -/
def execLinkByteReceived (b : Byte) (s : State) : Out :=
  .next (if s.receiving then s.setLink (s.link.take b) else s)

/-- REPLY_ABANDONED (10 R172): a byte between a request and its reply. Nothing where no reply waits. -/
def execReplyAbandoned (b : Byte) (s : State) : Out :=
  .next (match s.link.reply with
    | .awaiting _ => if s.receiving then s.setLink (s.link.take b) else s
    | .sending _ => s
    | .none => s)

/-- FRAME_OVERRUN_DISCARD (10 R168): the byte that makes the frame too long, or follows a complete one,
discards it with no flag. Nothing where the byte does neither. -/
def execFrameOverrunDiscard (b : Byte) (s : State) : Out :=
  .next (if s.receiving && decide (s.link.receiver = .frame) && overruns s.link.buffer b then
    s.setLink (s.link.take b) else s)

/-- LINE_IDLE_ARMED (10 R167). -/
def execLineIdleArmed (s : State) : Out :=
  .next (if s.receiving && decide (s.link.receiver = .hunt) then
    s.setLink { s.link with receiver := .armed } else s)

/-- FRAME_GAP_TIMEOUT (10 R167): a gap inside a frame discards it and sets LINK_ERROR. Nothing where no
frame is being received, or where it is complete. -/
def execFrameGapTimeout (s : State) : Out :=
  .next (if s.receiving && decide (s.link.receiver = .frame) && !frameComplete s.link.buffer then
    (s.setLink { s.link with receiver := .armed, buffer := [] }).setFlag .linkError else s)

/-- REPLY_BEGIN (10 R171): the prepared reply is driven onto the pair. -/
def execReplyBegin (s : State) : Out :=
  .next (match s.link.reply with
    | .awaiting r => if s.running then s.setLink { s.link with reply := .sending r } else s
    | .sending _ => s
    | .none => s)

/-- REPLY_SENT (10 R167, R171): LINK-DE is released and the receiver returns to HUNT. -/
def execReplySent (s : State) : Out :=
  .next (match s.link.reply with
    | .sending _ => s.setLink { s.link.toHunt with reply := .none }
    | .awaiting _ => s
    | .none => s)

/-- The bytes of the reply frame on the pair, if one is being sent (10 R171; 11 section 11.1). -/
def State.replyFrame (s : State) : Option (List Byte) :=
  match s.link.reply with
  | .sending r => some (frameBytes s.link.address r.kind r.payload)
  | .awaiting _ => none
  | .none => none

/-- UNKNOWN_KIND (10 R170, 11 R187): answered KIND. Nothing for a kind the part knows. -/
def execUnknownKind (kind : Byte) (s : State) : Out :=
  .next (if s.hears (.unknownKind kind) && (requestOf .unicast kind []).isNone then
    s.frameTaken.answer kind (alone .kind) else s)

/-- FRAME_CRC_DISCARD (10 R168). -/
def execFrameCrcDiscard (s : State) : Out :=
  .next (if s.hears .frameCrcDiscard then s.frameTaken.setFlag .linkError else s)

/-- FOREIGN_FRAME (10 R168): ignored without a flag. -/
def execForeignFrame (s : State) : Out :=
  .next (if s.hears .foreignFrame then s.frameTaken else s)

/-- BROADCAST_IGNORED (10 R169): no effect and no reply. -/
def execBroadcastIgnored (s : State) : Out :=
  .next (if s.hears .broadcastIgnored then s.frameTaken else s)

end Sys2Proof.Machine
end

