-- ==== Sys2Proof/Machine/GradeRequests.lean ====
section
/-! DEFINITION. The requests of the Grade Selector and its signal from the Rhythm Monitor (07 R121, R131,
R132). -/

namespace Sys2Proof.Machine

/-- A capability mask taken: the common set recomputed, the floor restored where it changed, the CONFLICT
event where the request emptied it (07 R121, R124, R133). -/
def State.advertise (s : State) (mask : GradeSet) : State :=
  let t := (s.setGrade { s.grade with capability := mask }).recomputeRestoring .advertise
  if t.grade.common = 0#4 ∧ s.grade.common ≠ 0#4 then t.conflictEvent s.grade else t

/-- ADVERTISE_GRADES (07 R121). -/
def execAdvertiseGrades (p : List Byte) (s : State) : Out :=
  serve (.advertiseGrades p) 0x17#8 p s fun s =>
    if s.starting then refuse s .busy
    else if 15 < byteAt p 0 then refuse s .range
    else
      let t := s.advertise (BitVec.ofNat 4 (byteAt p 0))
      (t, alone .ok ++ [byte t.grade.capability.toNat, byte t.grade.common.toNat, byte t.grade.floor.code,
        byte t.grade.advised.code])

/-- RESTORE_GRADE (07 R131). -/
def execRestoreGrade (p : List Byte) (s : State) : Out :=
  serve (.restoreGrade p) 0x18#8 p s fun s =>
    if s.starting then refuse s .busy
    else
      let t := s.restore .request
      (t, alone .ok ++ [byte s.grade.floor.code, byte s.grade.advised.code, byte t.grade.floor.code,
        byte t.grade.advised.code])

/-- RESTORE_IDLE_SIGNAL: the restore-idle timer reaches `restore_idle`, once in a STOPPED spell (06 R118).
Nothing where the timer does not run or its signal has been given. -/
def execRestoreIdleSignal (s : State) : Out :=
  .next (match s.rhythm.restoreStart with
    | some t =>
      if s.running && decide (s.rhythm.state = .stopped) && !s.rhythm.signalGiven then
        (s.reach (t + 1000 * s.settings.line.restoreIdle)).giveRestoreIdle
      else s
    | none => s)

/-- STALL: the stall timer reaches three times E (06 R113). Nothing in STOPPED. -/
def execStall (s : State) : Out :=
  .next (if s.running && decide (s.rhythm.state ≠ .stopped) then
    (s.reach (s.rhythm.stallStart + 3 * s.expectedPeriod)).takeStall else s)

end Sys2Proof.Machine
end

