-- ==== Sys2Proof/Machine/LinkQueries.lean ====
section
/-! DEFINITION. IDENTIFY, STATUS and the requests of the Notice Queue (10 sections 10.4, 10.5). -/

namespace Sys2Proof.Machine

/-- IDENTIFY (10 R178). -/
def execIdentify (p : List Byte) (s : State) : Out :=
  serve (.identify p) 0x01#8 p s fun s =>
    (s, alone .ok ++ [byte Config.familyCode, byte Config.revisionCode, s.link.address,
      byte s.link.rate.toNat, byte 4, byte 40, byte 16, byte 8])

/-- STATUS (10 R179). -/
def execStatus (p : List Byte) (s : State) : Out :=
  serve (.status p) 0x02#8 p s fun s => (s, statusBytes s)

/-- CLEAR_FLAGS (10 R177). -/
def execClearFlags (p : List Byte) (s : State) : Out :=
  serve (.clearFlags p) 0x03#8 p s fun s =>
    if 4096 ≤ wordAt p 0 then refuse s .range
    else
      let flags := s.notices.flags &&& ~~~(BitVec.ofNat 12 (wordAt p 0))
      (s.setNotices { s.notices with flags := flags }, alone .ok ++ be16 flags.toNat)

/-- FETCH_NOTICE (10 R175): the oldest notice removed and returned, the overflow indicator cleared. -/
def execFetchNotice (p : List Byte) (s : State) : Out :=
  serve (.fetchNotice p) 0x05#8 p s fun s =>
    let shown := byte (boolCode s.notices.overflow)
    match s.notices.queue with
    | [] => (s.setNotices { s.notices with overflow := false }, alone .empty ++ [shown, 0#8])
    | n :: rest =>
      (s.setNotices { s.notices with queue := rest, overflow := false },
        alone .ok ++ [shown, byte rest.length, n.1, byte n.2.kindCode, byte n.2.body.length] ++ n.2.body)

end Sys2Proof.Machine
end

