-- ==== Sys2Proof/Machine/ModeRequests.lean ====
section
/-! DEFINITION. The mode requests and the end of the prime (09). -/

namespace Sys2Proof.Machine

/-- The first enabled lane whose assigned recipe is not valid (09 R155 check 2). -/
def Settings.invalidLane (st : Settings) : Option Lane :=
  Lane.all.find? fun l => st.enabled l && !(st.recipe (st.assigned.lane l)).valid

/-- START in IDLE (09 R155). -/
def startIdle (s : State) : Served :=
  if s.settings.line.lanes = 0#4 then (s, [byte Status.config.code, 1#8, 0xFF#8])
  else
    match s.settings.invalidLane with
    | some l => (s, [byte Status.config.code, 2#8, byte l.number])
    | none =>
      if s.grade.common = 0#4 then
        (s, [byte Status.conflict.code, byte s.grade.common.toNat, byte s.grade.capability.toNat])
      else
        (s.setMode { s.mode with mode := .starting, primeDue := some (s.now + 200) }, alone .ok)

/-- START (09 R155). -/
def execStart (p : List Byte) (s : State) : Out :=
  serve (.start p) 0x20#8 p s fun s =>
    match s.mode.mode with
    | .idle => startIdle s
    | .starting => refuse s .already
    | .run => refuse s .already
    | .halted => refuse s .mode

/-- The first zone, ascending, that an enabled lane reads and that is FAULTED (09 R157). -/
def State.faultedZone (s : State) : Option Zone :=
  Zone.all.find? fun z =>
    (Lane.all.any fun l => s.settings.enabled l && decide (s.settings.line.zoneMap.lane l = z)) &&
      decide ((s.zones.zone.zone z).health = .faulted)

/-- The prime judged (09 R157). -/
def State.judgePrime (s : State) : State :=
  match s.faultedZone with
  | some z => (s.enterMode .idle .none).modeEvent .starting .startFailed (.zone z)
  | none =>
    if s.openConfirmed then (s.enterMode .run .none).modeEvent .starting .started .none
    else (s.enterMode .idle .none).modeEvent .starting .startFailed .press

/-- PRIME_END: the prime timer runs out (09 R157). Nothing where it does not run. -/
def execPrimeEnd (s : State) : Out :=
  .next (match s.mode.primeDue with
    | some d => if s.running && s.starting then (s.reach d).judgePrime else s
    | none => s)

/-- STOP in RUN and HALTED, one operation in the order of 09 R160. -/
def State.stopLine (s : State) : State :=
  let t := ((s.terminateAny .stop).purge.restore .stop).enterMode .idle .none
  t.modeEvent s.mode.mode .stopped
    (if s.mode.mode = .halted then .halt s.mode.haltCause else .none)

/-- STOP in STARTING (09 R160): the prime abandoned, every slot UNKNOWN. -/
def State.stopPrime (s : State) : State :=
  ((s.setRows (s.track.rows.map fun _ => unknownRow)).enterMode .idle .none).restore .stop |>.modeEvent
    .starting .stopped .none

/-- STOP (09 R160). -/
def execStop (dest : Dest) (p : List Byte) (s : State) : Out :=
  serveTo dest (.stop dest p) 0x21#8 p s fun s =>
    match s.mode.mode with
    | .idle => refuse s .already
    | .starting => (s.stopPrime, alone .ok)
    | .run => (s.stopLine, alone .ok)
    | .halted => (s.stopLine, alone .ok)

/-- RESUME (09 R159). -/
def execResume (p : List Byte) (s : State) : Out :=
  serve (.resume p) 0x22#8 p s fun s =>
    match s.mode.mode with
    | .idle => refuse s .mode
    | .starting => refuse s .mode
    | .run => refuse s .already
    | .halted =>
      if s.openConfirmed then
        ((s.enterMode .run .none).modeEvent .halted .resumed (.halt s.mode.haltCause), alone .ok)
      else refuse s .fault

/-- The Rhythm Monitor as a soft reset sets it (06 R119). -/
def RhythmUnit.softReset (r : RhythmUnit) (now : Nat) : RhythmUnit :=
  { r with
    state := .stopped, good := 0, slip := 0, lastInterval := 0, deadline := none,
    restoreStart := some now, signalGiven := false }

/-- The soft reset, one operation in the order of 09 R161. -/
def State.softReset (s : State) : State :=
  let t := (s.terminateAny .stop).purge
  let t := t.setTrack { t.track with window := wholeWindow t.settings.line.pGate }
  let t := t.enterMode .idle .none
  let t := (t.setGrade (t.grade.afterReset t.settings)).setRhythm (t.rhythm.softReset t.now)
  let t := (t.setDischarge t.discharge.dropActions).pressFromSwitches
  (t.setNotices emptyNotices).setLink { t.link with window := none }

/-- SOFT_RESET (09 R161). -/
def execSoftReset (dest : Dest) (p : List Byte) (s : State) : Out :=
  serveTo dest (.softReset dest p) 0x23#8 p s fun s =>
    if s.starting then refuse s .busy
    else if s.store.busy then refuse s .busy
    else (s.softReset, alone .ok)

end Sys2Proof.Machine
end

