-- ==== Sys2Proof/Machine/Power.lean ====
section
/-! DEFINITION. The supply, the RESET pin and the settings load (09 section 9.6, 10 R185). -/

namespace Sys2Proof.Machine

/-- A store in progress ended, the stored copy left bad (09 R164). -/
def StoreUnit.broken (k : StoreUnit) : StoreUnit := if k.busy then ⟨none, false, false⟩ else k

/-- What the assertion of RESET does (09 R163): outputs dropped, the stroke discarded without termination,
the track purged and counted, the queue emptied, the mode IDLE, a store ended. -/
def State.assertReset (s : State) : State :=
  let t := s.purge
  let t := t.setDischarge t.discharge.dropActions
  let t := t.setPress { t.press with
    state := .opened, pressClose := false, settleDue := none, closeDue := none, openDue := none, stroke := none }
  let t := t.setGrade { t.grade with lines := 0#2 }
  let t := (t.setMode idleMode).setNotices emptyNotices
  let t := t.setLink { t.link with receiver := .hunt, buffer := [], reply := .none, window := none }
  t.setStore t.store.broken

/-- PIN_RESET (09 R163). Nothing while the supply is off. -/
def execPinReset (s : State) : Out :=
  .next (if s.phase = .off then s else s.assertReset.setPhase .held)

/-- RESET_RELEASE (09 R163): the settings load of the pin-reset sequence begins. -/
def execResetRelease (s : State) : Out :=
  .next (if s.phase = .held then s.setPhase (.loading .pin) else s)

/-- What a power-on clears that a pin reset keeps: serials, counts and the count snapshot (09 R162). -/
def State.clearCounts (s : State) : State :=
  let t := s.setTrack { s.track with nextSerial := 0#16, advances := 0#32 }
  let t := t.setPress { t.press with strokes := 0#32, closeTimeouts := 0 }
  t.setDischarge { t.discharge with bank := zeroBank, snapshot := none }

/-- The supply lost: everything in flight ended without trace, a store in progress with it (09 R162). -/
def State.losePower (s : State) : State := s.assertReset.clearCounts.setPhase .off

/-- POWER_LOSS (09 R162). -/
def execPowerLoss (s : State) : Out := .next s.losePower

/-- POWER_ON (09 R162): the settings load of the power-on sequence begins at once, whatever level RESET has:
the part keeps no RESET level, and a RESET asserted then is the sender's PIN_RESET (assumption 23, DESIGN
CHOICE). -/
def execPowerOn (s : State) : Out := .next (s.losePower.setPhase (.loading .powerOn))

/-- The Grade Selector at IDLE entry: all four grades advertised, the common set of the loaded settings
(07 R135). -/
def freshGrade (st : Settings) : GradeUnit :=
  GradeUnit.afterReset ⟨0xF#4, 0xF#4, .g1, .g1, 0, 0, 0, 0#2⟩ st

/-- The settings load complete (10 R185): the stored copy or the defaults installed, the blocks at their
reset values, the straps read, and a STORE LOST event where the stored copy was bad. -/
def State.finishLoad (s : State) (k : ResetKind) (address : BitVec 5) (rate : BitVec 2) : State :=
  let st := s.store.stored.getD defaultSettings
  let t := if k = .powerOn then s.clearCounts else s
  let t := (t.setSettings st).rebuildTrack
  let t := (t.setMode idleMode).setNotices emptyNotices
  let t := (t.setZones (freshZones t.now)).setRhythm (freshRhythm t.now)
  let t := (t.setGrade (freshGrade st)).setDischarge t.discharge.dropActions
  let t := t.pressFromSwitches.setLink ⟨.hunt, [], .none, none, strapAddress address, rate⟩
  let t := (t.setStore ⟨s.store.stored, s.store.stored.isSome, false⟩).setPhase .running
  if s.store.stored.isSome then t else t.raise (.store .lost)

/-- SETTINGS_LOAD (09 R162, R163; 10 R185). Nothing where no load runs. -/
def execSettingsLoad (address : BitVec 5) (rate : BitVec 2) (s : State) : Out :=
  .next (match s.phase with
    | .loading k => s.finishLoad k address rate
    | .off => s
    | .held => s
    | .running => s)

end Sys2Proof.Machine
end

