-- ==== Sys2Proof/Machine/SettingsRequests.lean ====
section
/-! DEFINITION. The requests about the working settings (01; 08 section 8.2; 10 R176, R181) and the
settings store (10 section 10.7). -/

namespace Sys2Proof.Machine

/-! ## The line configuration -/

/-- The consistency check: the number of the first relation that does not hold, 0 if all hold (01 R2). -/
def lineCheck (c : LineConfig) : Nat :=
  if ¬(c.pPlace < c.pSeal ∧ c.pSeal < c.pVision ∧ c.pVision < c.pGate) then 1
  else if ¬(c.dFill ≤ c.pSeal) then 2
  else if ¬(c.pPlace + 1 ≤ c.dPlace ∧ c.dPlace ≤ c.pSeal) then 3
  else if ¬(c.pVision + 1 ≤ c.dVision ∧ c.dVision ≤ c.pGate) then 4
  else if ¬(c.periods.q0 < c.periods.q1 ∧ c.periods.q1 < c.periods.q2 ∧ c.periods.q2 < c.periods.q3) then 5
  else if ¬(c.recoverRun = 0 ∨ c.cleanRun ≤ c.recoverRun) then 6
  else 0

/-- CONFIGURE LINE after the LENGTH check (01 R3 to R7). -/
def configureLineRule (p : List Byte) (s : State) : Served :=
  let mask := beNat (p.take 4)
  if s.starting then refuse s .busy
  else if s.store.busy then refuse s .busy
  else if s.tracking then refuse s .mode
  else if 2 ^ 28 ≤ mask then refuse s .range
  else
    let k := buildCandidate mask (p.drop 4) s.settings.line
    let check := lineCheck k.line
    if check ≠ 0 then (s, [byte Status.config.code, byte check] ++ be32 k.clamped.toNat)
    else
      (s.installSettings { s.settings with line := k.line },
        [byte (if k.clamped = 0#32 then Status.ok else Status.clamped).code, 0#8] ++ be32 k.clamped.toNat)

/-- CONFIGURE_LINE (01 R3 to R8). -/
def execConfigureLine (p : List Byte) (s : State) : Out :=
  serve (.configureLine p) 0x10#8 p s (configureLineRule p)

/-- READ_LINE (01 R9). -/
def execReadLine (p : List Byte) (s : State) : Out :=
  serve (.readLine p) 0x11#8 p s fun s =>
    if s.starting then refuse s .busy else (s, alone .ok ++ lineBytes s.settings.line)

/-! ## Recipes -/

/-- A recipe replaced. -/
def Settings.setRecipe (st : Settings) (n : Fin 16) (r : Recipe) : Settings :=
  { st with recipes := st.recipes.set n.val r }

/-- A WRITE RECIPE accepted (01 R13): the recipe replaced whole, and the common set recomputed where the
recipe is assigned to an enabled lane. -/
def State.writeRecipe (s : State) (n : Fin 16) (r : Recipe) : State :=
  let t := s.setSettings (s.settings.setRecipe n r)
  if t.settings.assignedToEnabled n then t.recomputeCommon.handGrade s.grade.advised else t

/-- The RANGE reply that carries the number of the field that failed (11 section 11.4). -/
def refuseField (s : State) (field : Nat) : Served := (s, [byte Status.range.code, byte field])

/-- WRITE RECIPE after the LENGTH check, in the order of 01 R12. Where both orders of step 6 fail, the step does not
say whose field number is sent: the dose order is judged first, as the step names it first (assumption 25,
DEDUCED). -/
def writeRecipeRule (p : List Byte) (s : State) : Served :=
  let f := p.drop 1
  match indexOfCode (byteAt p 0) 16 with
  | none => refuseField s 0
  | some n =>
    if s.starting then refuse s .busy
    else if s.store.busy then refuse s .busy
    else if s.tracking && s.recipeInUse n then refuse s .mode
    else if byteAt f 17 = 0 ∨ 15 < byteAt f 17 then refuseField s 10
    else
      let r := recipeOf f
      if r.doseTarget < r.doseMin ∨ r.doseMax < r.doseTarget then refuseField s 3
      else if r.dwellMax < r.dwellMin then refuseField s 6
      else
        (s.writeRecipe n r,
          byte (if recipeClamps f = 0#16 then Status.ok else Status.clamped).code ::
            be16 (recipeClamps f).toNat)

/-- WRITE_RECIPE (01 R12, R13). -/
def execWriteRecipe (p : List Byte) (s : State) : Out :=
  serve (.writeRecipe p) 0x12#8 p s (writeRecipeRule p)

/-- READ_RECIPE (01 R14). -/
def execReadRecipe (p : List Byte) (s : State) : Out :=
  serve (.readRecipe p) 0x13#8 p s fun s =>
    match indexOfCode (byteAt p 0) 16 with
    | none => refuse s .range
    | some n =>
      if s.starting then refuse s .busy
      else (s, alone .ok ++ [byte (boolCode (s.recipeInUse n))] ++ recipeBytes (s.settings.recipe n))

/-! ## Lane assignment -/

/-- The settings with a lane's assignment replaced. -/
def Settings.assign (st : Settings) (l : Lane) (n : Fin 16) : Settings :=
  { st with assigned := st.assigned.setLane l n }

/-- Whether an assignment meets the CONFLICT check of 01 R16 step 4. -/
def State.assignConflicts (s : State) (l : Lane) (n : Fin 16) : Bool :=
  s.tracking && s.settings.enabled l && decide (s.settings.assigned.lane l ≠ n) &&
    decide (commonSet (s.settings.assign l n) s.grade.capability = 0#4)

/-- ASSIGN RECIPE after the LENGTH check (01 R16, R17). -/
def assignRecipeRule (p : List Byte) (s : State) : Served :=
  match laneOfCode (byteAt p 0), indexOfCode (byteAt p 1) 16 with
  | some l, some n =>
    if (s.settings.recipe n).valid = false then refuse s .range
    else if s.starting then refuse s .busy
    else if s.store.busy then refuse s .busy
    else if s.assignConflicts l n then refuse s .conflict
    else ((s.setSettings (s.settings.assign l n)).recomputeRestoring .assign, alone .ok)
  | some _, none => refuse s .range
  | none, some _ => refuse s .range
  | none, none => refuse s .range

/-- ASSIGN_RECIPE (01 R16, R17; 07 R133). -/
def execAssignRecipe (p : List Byte) (s : State) : Out :=
  serve (.assignRecipe p) 0x14#8 p s (assignRecipeRule p)

/-! ## Disposition rules -/

/-- A disposition rule replaced. -/
def Settings.setRule (st : Settings) (n : Fin 8) (r : Rule) : Settings :=
  { st with rules := st.rules.set n.val r }

/-- WRITE RULE after the LENGTH check, in the order of 08 R141. Where several codes of step 3 are out of their sets,
the step does not say whose field number is sent: they are judged in the order the step names them, recipe, lane,
mark condition, outcome (assumption 26, DEDUCED). -/
def writeRuleRule (p : List Byte) (s : State) : Served :=
  match indexOfCode (byteAt p 0) 8 with
  | none => refuseField s 0
  | some n =>
    if s.starting then refuse s .busy
    else if s.store.busy then refuse s .busy
    else
      match ruleRecipeOfCode (byteAt p 2) with
      | none => refuseField s 1
      | some recipe =>
        match ruleLaneOfCode (byteAt p 3) with
        | none => refuseField s 2
        | some lane =>
          match markConditionOfCode (byteAt p 4) with
          | none => refuseField s 3
          | some mark =>
            match fateOfCode (byteAt p 5) with
            | none => refuseField s 4
            | some fate =>
              let r : Rule := ⟨decide (0 < byteAt p 1), recipe, lane, mark, fate⟩
              (s.setSettings (s.settings.setRule n r),
                alone (if 1 < byteAt p 1 then .clamped else .ok) ++ ruleBytes n r)

/-- WRITE_RULE (08 R141). -/
def execWriteRule (p : List Byte) (s : State) : Out :=
  serve (.writeRule p) 0x15#8 p s (writeRuleRule p)

/-- READ_RULE (08 R142). -/
def execReadRule (p : List Byte) (s : State) : Out :=
  serve (.readRule p) 0x16#8 p s fun s =>
    match indexOfCode (byteAt p 0) 8 with
    | none => refuse s .range
    | some n =>
      if s.starting then refuse s .busy
      else (s, alone .ok ++ ruleBytes n s.settings.rules[n.val])

/-! ## Notice mask and return size -/

/-- SET_NOTICE_MASK (10 R176). -/
def execSetNoticeMask (p : List Byte) (s : State) : Out :=
  serve (.setNoticeMask p) 0x04#8 p s fun s =>
    if s.starting then refuse s .busy
    else if s.store.busy then refuse s .busy
    else
      let mask := BitVec.ofNat 8 (byteAt p 0)
      (s.setSettings { s.settings with noticeMask := mask }, alone .ok ++ [mask])

/-- SET_RETURN_SIZE (10 R181). -/
def execSetReturnSize (p : List Byte) (s : State) : Out :=
  serve (.setReturnSize p) 0x45#8 p s fun s =>
    if s.starting then refuse s .busy
    else if s.store.busy then refuse s .busy
    else
      let n := clamp 1 8 (byteAt p 0)
      (s.setSettings { s.settings with returnSize := n },
        alone (if n = byteAt p 0 then .ok else .clamped) ++ [byte n])

/-! ## The settings store -/

/-- STORE_SETTINGS: `store_valid` cleared and the stored copy no longer whole (10 R183). -/
def execStoreSettings (p : List Byte) (s : State) : Out :=
  serve (.storeSettings p) 0x60#8 p s fun s =>
    if s.starting then refuse s .busy
    else if s.store.busy then refuse s .busy
    else (s.setStore ⟨none, false, true⟩, alone .ok)

/-- STORE_COMPLETE: the stored copy whole, with the working settings, which no request changed since the
store began (10 R183). Nothing where no store is in progress. -/
def execStoreComplete (s : State) : Out :=
  .next (if s.running && s.store.busy then
    (s.setStore ⟨some s.settings, true, false⟩).raise (.store .stored) else s)

/-- RECALL_SETTINGS, in the order of 10 R184. -/
def execRecallSettings (p : List Byte) (s : State) : Out :=
  serve (.recallSettings p) 0x61#8 p s fun s =>
    if s.starting then refuse s .busy
    else if s.store.busy then refuse s .busy
    else if s.tracking then refuse s .mode
    else
      match s.store.stored with
      | none => refuse s .checksum
      | some st => (s.installSettings st, alone .ok)

end Sys2Proof.Machine
end

