-- ==== Sys2Proof/Machine/Dispatch.lean ====
section
/-! DEFINITION. One arm for each command, each one direct call of its meaning. -/

namespace Sys2Proof.Machine

def exec (i : Instr) (s : State) : Host.Outcome State Fault Refusal :=
  match i with
  | .identify p => Sys2Proof.Machine.execIdentify p s
  | .status p => Sys2Proof.Machine.execStatus p s
  | .clearFlags p => Sys2Proof.Machine.execClearFlags p s
  | .setNoticeMask p => Sys2Proof.Machine.execSetNoticeMask p s
  | .fetchNotice p => Sys2Proof.Machine.execFetchNotice p s
  | .configureLine p => Sys2Proof.Machine.execConfigureLine p s
  | .readLine p => Sys2Proof.Machine.execReadLine p s
  | .writeRecipe p => Sys2Proof.Machine.execWriteRecipe p s
  | .readRecipe p => Sys2Proof.Machine.execReadRecipe p s
  | .assignRecipe p => Sys2Proof.Machine.execAssignRecipe p s
  | .writeRule p => Sys2Proof.Machine.execWriteRule p s
  | .readRule p => Sys2Proof.Machine.execReadRule p s
  | .advertiseGrades p => Sys2Proof.Machine.execAdvertiseGrades p s
  | .restoreGrade p => Sys2Proof.Machine.execRestoreGrade p s
  | .start p => Sys2Proof.Machine.execStart p s
  | .stop dest p => Sys2Proof.Machine.execStop dest p s
  | .resume p => Sys2Proof.Machine.execResume p s
  | .softReset dest p => Sys2Proof.Machine.execSoftReset dest p s
  | .reportFill p => Sys2Proof.Machine.execReportFill p s
  | .reportPlace p => Sys2Proof.Machine.execReportPlace p s
  | .reportVision p => Sys2Proof.Machine.execReportVision p s
  | .lookup p => Sys2Proof.Machine.execLookup p s
  | .markCard p => Sys2Proof.Machine.execMarkCard p s
  | .setWindow p => Sys2Proof.Machine.execSetWindow p s
  | .markWindow p => Sys2Proof.Machine.execMarkWindow p s
  | .readWindow p => Sys2Proof.Machine.execReadWindow p s
  | .nextChunk p => Sys2Proof.Machine.execNextChunk p s
  | .abort p => Sys2Proof.Machine.execAbort p s
  | .setReturnSize p => Sys2Proof.Machine.execSetReturnSize p s
  | .latchCounts dest p => Sys2Proof.Machine.execLatchCounts dest p s
  | .readCounts p => Sys2Proof.Machine.execReadCounts p s
  | .clearCounts p => Sys2Proof.Machine.execClearCounts p s
  | .storeSettings p => Sys2Proof.Machine.execStoreSettings p s
  | .recallSettings p => Sys2Proof.Machine.execRecallSettings p s
  | .unknownKind kind => Sys2Proof.Machine.execUnknownKind kind s
  | .frameCrcDiscard => Sys2Proof.Machine.execFrameCrcDiscard s
  | .foreignFrame => Sys2Proof.Machine.execForeignFrame s
  | .broadcastIgnored => Sys2Proof.Machine.execBroadcastIgnored s
  | .frameOverrunDiscard b => Sys2Proof.Machine.execFrameOverrunDiscard b s
  | .lineIdleArmed => Sys2Proof.Machine.execLineIdleArmed s
  | .frameGapTimeout => Sys2Proof.Machine.execFrameGapTimeout s
  | .replyAbandoned b => Sys2Proof.Machine.execReplyAbandoned b s
  | .replySent => Sys2Proof.Machine.execReplySent s
  | .indexEvent edge => Sys2Proof.Machine.execIndexEvent edge s
  | .warnEdge after level => Sys2Proof.Machine.execWarnEdge after level s
  | .settleExpiry => Sys2Proof.Machine.execSettleExpiry s
  | .closedConfirmation after sw => Sys2Proof.Machine.execClosedConfirmation after sw s
  | .closeTimeout => Sys2Proof.Machine.execCloseTimeout s
  | .openConfirmation after sw => Sys2Proof.Machine.execOpenConfirmation after sw s
  | .openTimeout => Sys2Proof.Machine.execOpenTimeout s
  | .samplingTick codes px => Sys2Proof.Machine.execSamplingTick codes px s
  | .predictedDeadline => Sys2Proof.Machine.execPredictedDeadline s
  | .stall => Sys2Proof.Machine.execStall s
  | .restoreIdleSignal => Sys2Proof.Machine.execRestoreIdleSignal s
  | .primeEnd => Sys2Proof.Machine.execPrimeEnd s
  | .flapDue o => Sys2Proof.Machine.execFlapDue o s
  | .flapPulseEnd o => Sys2Proof.Machine.execFlapPulseEnd o s
  | .storeComplete => Sys2Proof.Machine.execStoreComplete s
  | .powerOn => Sys2Proof.Machine.execPowerOn s
  | .powerLoss => Sys2Proof.Machine.execPowerLoss s
  | .pinReset => Sys2Proof.Machine.execPinReset s
  | .resetRelease => Sys2Proof.Machine.execResetRelease s
  | .settingsLoad address rate => Sys2Proof.Machine.execSettingsLoad address rate s
  | .linkByteReceived b => Sys2Proof.Machine.execLinkByteReceived b s
  | .replyBegin => Sys2Proof.Machine.execReplyBegin s

end Sys2Proof.Machine
end

