-- ==== Sys2Proof/Machine/Step.lean ====
section
/-! DEFINITION. One step: the command at the front of the queue, or a millisecond of the model's clock. -/

namespace Sys2Proof.Machine

/-- One step. The command at the front of the queue is run with the queue's rest. On an empty queue nothing
arrives and no timer runs out: the clock alone moves on, by 1 ms (assumption 1). -/
def step (s : State) : Host.Outcome State Fault Refusal :=
  match s.pending with
  | i :: rest => exec i (s.setPending rest)
  | [] => .next (s.setNow (s.now + 1))

/-- The command that a word spells put at the front of the queue. No row of the table gives bits, so no word
spells one, and the state stays as it is. -/
def State.withFetchWord (s : State) (nbits w : Nat) : State :=
  match decodeTableWord nbits w with
  | some i => s.setPending (i :: s.pending)
  | none => s

end Sys2Proof.Machine
end

