-- ==== Sys2Proof/Safety.lean ====
section
/-! DEFINITION. What a sound state of the part is: the properties the manual says hold at all times, block by
block, and the shape a state has after a request has been answered. -/

namespace Sys2Proof.Machine

/-! ## After a request -/

/-- The state with a request's frame judged and the reply given prepared; all else as it was (10 R168, R171). -/
def State.afterReply (s : State) (kind : Byte) (payload : List Byte) : State :=
  { s with link := { s.link with receiver := .armed, buffer := [], reply := .awaiting ⟨kind + 0x80#8, payload⟩ } }

/-- The state with a frame judged and no reply prepared; all else as it was (10 R168, R169). -/
def State.afterFrame (s : State) : State :=
  { s with link := { s.link with receiver := .armed, buffer := [], reply := .none } }

/-- Whether no request may change a working setting now: a store is in progress (10 R183). -/
def State.storing (s : State) : Prop := s.store.busy = true

/-! ## Settings (01 R1, R2, R10; 10 R181) -/

/-- Every field within its range (01 section 1.1). -/
def LineConfig.inRange (c : LineConfig) : Prop :=
  (1 ≤ c.pPlace ∧ c.pPlace ≤ 39) ∧ (1 ≤ c.pSeal ∧ c.pSeal ≤ 39) ∧ (1 ≤ c.pVision ∧ c.pVision ≤ 39) ∧
  (1 ≤ c.pGate ∧ c.pGate ≤ 39) ∧ (1 ≤ c.dFill ∧ c.dFill ≤ 39) ∧ (1 ≤ c.dPlace ∧ c.dPlace ≤ 39) ∧
  (1 ≤ c.dVision ∧ c.dVision ≤ 39) ∧
  (200 ≤ c.periods.q0 ∧ c.periods.q0 ≤ 10000) ∧ (200 ≤ c.periods.q1 ∧ c.periods.q1 ≤ 10000) ∧
  (200 ≤ c.periods.q2 ∧ c.periods.q2 ≤ 10000) ∧ (200 ≤ c.periods.q3 ∧ c.periods.q3 ≤ 10000) ∧
  (1 ≤ c.tol ∧ c.tol ≤ 25) ∧ (2 ≤ c.lockCount ∧ c.lockCount ≤ 15) ∧ (2 ≤ c.slipLimit ∧ c.slipLimit ≤ 15) ∧
  c.releaseLead ≤ 500 ∧ c.settle ≤ 250 ∧ (20 ≤ c.closeTimeout ∧ c.closeTimeout ≤ 1000) ∧
  (20 ≤ c.openTimeout ∧ c.openTimeout ≤ 1000) ∧ (1 ≤ c.unlockedDwellCap ∧ c.unlockedDwellCap ≤ 250) ∧
  (2 ≤ c.strikeLimit ∧ c.strikeLimit ≤ 9) ∧ (4 ≤ c.cleanRun ∧ c.cleanRun ≤ 255) ∧ c.recoverRun ≤ 65535 ∧
  (5 ≤ c.restoreIdle ∧ c.restoreIdle ≤ 600) ∧ c.gateDelay ≤ 2000 ∧ (10 ≤ c.gatePulse ∧ c.gatePulse ≤ 500) ∧
  c.sampleDelay ≤ 2000 ∧ (10 ≤ c.samplePulse ∧ c.samplePulse ≤ 500)

/-- Every relation of the consistency check (01 R2). -/
def LineConfig.consistent (c : LineConfig) : Prop :=
  (c.pPlace < c.pSeal ∧ c.pSeal < c.pVision ∧ c.pVision < c.pGate) ∧ c.dFill ≤ c.pSeal ∧
  (c.pPlace + 1 ≤ c.dPlace ∧ c.dPlace ≤ c.pSeal) ∧ (c.pVision + 1 ≤ c.dVision ∧ c.dVision ≤ c.pGate) ∧
  (c.periods.q0 < c.periods.q1 ∧ c.periods.q1 < c.periods.q2 ∧ c.periods.q2 < c.periods.q3) ∧
  (c.recoverRun = 0 ∨ c.cleanRun ≤ c.recoverRun)

/-- A recipe within the ranges and orders of 01 R10. -/
def Recipe.legal (r : Recipe) : Prop :=
  (320 ≤ r.tAct ∧ r.tAct ≤ 1000) ∧ (64 ≤ r.pRef ∧ r.pRef ≤ 1023) ∧
  (r.doseMin ≤ r.doseTarget ∧ r.doseTarget ≤ r.doseMax ∧ r.doseMax ≤ 65535) ∧
  (1 ≤ r.dwellMin ∧ r.dwellMin ≤ r.dwellMax ∧ r.dwellMax ≤ 250) ∧
  r.items ≤ 15 ∧ r.regTol ≤ 127 ∧ r.grades ≠ 0#4

/-- Working settings that satisfy their chapters' rules. -/
def Settings.legal (st : Settings) : Prop :=
  st.line.inRange ∧ st.line.consistent ∧ (∀ r ∈ st.recipes.toList, r.legal) ∧
  1 ≤ st.returnSize ∧ st.returnSize ≤ 8

/-- The working settings and a good stored copy are legal. -/
def State.settingsLegal (s : State) : Prop :=
  s.settings.legal ∧ ∀ st ∈ s.store.stored, st.legal

/-! ## Mode and press -/

/-- INTERLOCK, the halt cause and the prime timer go with the mode, and outside the running part the mode is
IDLE (09 R153 to R155, R162). -/
def State.modeLegal (s : State) : Prop :=
  (s.mode.interlock = true ↔ s.mode.mode = .run) ∧ (s.mode.haltCause = .none ↔ s.mode.mode ≠ .halted) ∧
  (s.mode.primeDue.isSome = true ↔ s.mode.mode = .starting) ∧ (s.phase ≠ .running → s.mode.mode = .idle)

/-- PRESS-CLOSE, the stroke context and the timers go with the press state, and a stroke only with RUN
(05 section 5.1, R83, R87). -/
def State.pressLegal (s : State) : Prop :=
  (s.press.pressClose = true ↔ s.press.state.inStroke = true) ∧
  (s.press.stroke.isSome = true ↔ s.press.state.inStroke = true) ∧
  (s.press.state.inStroke = true → s.mode.mode = .run) ∧
  (s.press.settleDue.isSome = true ↔ s.press.state = .settling) ∧
  (s.press.closeDue.isSome = true ↔ s.press.state = .closing) ∧
  (s.press.openDue.isSome = true ↔ s.press.state = .releasing) ∧
  (s.phase ≠ .running → s.press.state = .opened)

/-- A stroke within its limits: n short of n_limit, n_limit at most 250 and no lane's `dwell_max` below it,
one to four lanes, each dose in 16 bits (04 R77; 05 R87, R88, R93). -/
def StrokeContext.legal (x : StrokeContext) : Prop :=
  x.n < x.nLimit ∧ x.nLimit ≤ 250 ∧ 1 ≤ x.lanes.length ∧ x.lanes.length ≤ 4 ∧
  ∀ k ∈ x.lanes, x.nLimit ≤ k.dwellMax ∧ k.dose ≤ 65535

/-- The stroke in flight, if any, is within its limits. -/
def State.strokeLegal (s : State) : Prop := ∀ x ∈ s.press.stroke, x.legal

/-- From the start of a reset sequence to its end the outputs are dropped, GRADE[1:0] is 00, the queue and
the Link Port are empty (06 R105; 07 R120; 08 R147; 09 R162, R163). -/
def State.resetHeld (s : State) : Prop :=
  s.phase ≠ .running →
    s.press.pressClose = false ∧ s.mode.interlock = false ∧ (∀ l, s.rejLine l = false) ∧ s.sampleLine = false ∧
    s.grade.lines = 0#2 ∧ s.attn = false ∧ s.link.receiver = .hunt ∧ s.link.reply = .none ∧ s.link.window = none

/-! ## The Zone Sampler -/

/-- A zone's recovery count is at most 7 and is kept while it is FAULTED alone, and its held code is 0, before
any valid sample, or a valid code (04 R66, R67, R71). -/
def ZoneRecord.legal (z : ZoneRecord) : Prop :=
  z.recovery ≤ 7 ∧ (z.health = .healthy → z.recovery = 0) ∧
  (z.held = 0#12 ∨ (40 ≤ z.held.toNat ∧ z.held.toNat ≤ 3999))

/-- Every zone is so. -/
def State.zonesLegal (s : State) : Prop := ∀ z, (s.zones.zone.zone z).legal

/-! ## Rhythm and grades -/

/-- The rhythm `r` and the queue `q` that a change of the advised grade or of its period leaves of a state, or
that its absence leaves (06 R113, R114): the good intervals lost, the lock lost with a RHYTHM event of cause
GRADE, and a stall where the timer already stands at three times the new period. The events carry the new period
(assumption 16), and the stall comes after the answer to the change (assumption 17). -/
def State.periodTaken (s : State) (moved : Prop) (period : Nat) (advised : Grade) (mask : BitVec 8)
    (r : RhythmUnit) (q : NoticeUnit) : Prop :=
  let due : Prop := 3 * period ≤ s.stallTimer
  let stopped : RhythmUnit := { s.rhythm with
    state := .stopped, good := 0, slip := 0, deadline := none, restoreStart := some s.now, signalGiven := false }
  let event (before after : RhythmState) (cause : RhythmCause) : Notice :=
    .rhythm before after cause .none 0 period advised
  (¬moved ∨ s.rhythm.state = .stopped → r = s.rhythm ∧ q = s.notices) ∧
  (moved → s.rhythm.state = .acquiring →
    (¬due → r = { s.rhythm with good := 0 } ∧ q = s.notices) ∧
    (due → r = stopped ∧ q = s.notices.push mask (event .acquiring .stopped .stall))) ∧
  (moved → s.rhythm.state = .locked ∨ s.rhythm.state = .slipping →
    let lost := s.notices.push mask (event s.rhythm.state .acquiring .grade)
    (¬due → r = { s.rhythm with state := .acquiring, good := 0, slip := 0, deadline := none } ∧ q = lost) ∧
    (due → r = stopped ∧ q = lost.push mask (event .acquiring .stopped .stall)))

/-- The deadline exists in LOCKED alone, the restore-idle timer runs in STOPPED alone, the good count is kept
in ACQUIRING alone and the slip count in SLIPPING alone (06 R110 to R113, R116, R118). -/
def State.rhythmLegal (s : State) : Prop :=
  (s.rhythm.deadline.isSome = true ↔ s.rhythm.state = .locked) ∧
  (s.rhythm.restoreStart.isSome = true ↔ s.rhythm.state = .stopped) ∧
  (s.rhythm.state ≠ .acquiring → s.rhythm.good = 0) ∧ (0 < s.rhythm.slip ↔ s.rhythm.state = .slipping) ∧
  s.rhythm.lastInterval ≤ 65535

/-- In the running part the common set is the one its sources give, the advised grade is its fastest member
not faster than the floor, the lines present it, each of the three counts is below its limit, and in IDLE and
STARTING the floor is G1 with every count 0 (07 R120, R122, R123, R126, R129, R136). -/
def State.gradeLegal (s : State) : Prop :=
  s.phase = .running →
    s.grade.common = commonSet s.settings s.grade.capability ∧
    (s.grade.common ≠ 0#4 → fastestFrom s.grade.common s.grade.floor = some s.grade.advised) ∧
    s.grade.lines = gradeLines s.grade.advised ∧
    s.grade.strike < s.settings.line.strikeLimit ∧ s.grade.cleanRun < s.settings.line.cleanRun ∧
    (s.grade.floor = .g1 ∨ s.settings.line.recoverRun = 0 → s.grade.recovery = 0) ∧
    (0 < s.settings.line.recoverRun → s.grade.recovery < s.settings.line.recoverRun) ∧
    (s.mode.mode = .idle ∨ s.mode.mode = .starting →
      s.grade.floor = .g1 ∧ s.grade.strike = 0 ∧ s.grade.cleanRun = 0 ∧ s.grade.recovery = 0)

/-- What an accepted CONFIGURE LINE or RECALL SETTINGS leaves of the grades, the rhythm and the queue (01 R7, R8;
06 R114, R118; 07 R122 to R125; 10 R184): the common set and the advised grade computed anew with no restore and
no GRADE event, a change of the advised grade or of its period taken by the Rhythm Monitor, and the restore-idle
signal given at once where its timer already stands at the new limit. That a change of either kind is handed on,
and that both requests hold the timer against the limit at once, is the model's reading (assumption 19). -/
def State.settingsTaken (s t : State) (st : Settings) : Prop :=
  let common := commonSet st s.grade.capability
  let advised := (fastestFrom common s.grade.floor).getD s.grade.advised
  let period := periodOf st.line advised
  t.grade = { s.grade with common := common, advised := advised, lines := gradeLines advised } ∧
  ∃ r : RhythmUnit,
    s.periodTaken (advised ≠ s.grade.advised ∨ period ≠ s.expectedPeriod) period advised st.noticeMask r t.notices ∧
    let due : Prop := r.state = .stopped ∧ r.signalGiven = false ∧
      ∃ t0, r.restoreStart = some t0 ∧ t0 + 1000 * st.line.restoreIdle ≤ s.now
    (due → t.rhythm = { r with signalGiven := true }) ∧ (¬due → t.rhythm = r)

/-! ## The track -/

/-- A card record's lists and values within their bounds (02 section 2.2, R27, R28). -/
def CardRecord.legal (c : CardRecord) : Prop :=
  c.marks.length ≤ 6 ∧ c.marks.Nodup ∧ (c.overflow = true → c.marks.length = 6) ∧
  (∀ n ∈ c.fill, n ≤ 15) ∧ (∀ q ∈ c.place, -127 ≤ q.offset ∧ q.offset ≤ 127)

/-- A window within the track (02 R41, R42). -/
def Window.legal (w : Window) (pGate : Nat) : Prop :=
  w.firstPos ≤ w.lastPos ∧ w.lastPos ≤ pGate ∧ w.firstLane ≤ w.lastLane ∧ w.lastLane ≤ 3

/-- The track has `p_gate + 1` positions and a window within it, its records are within their bounds, and in
IDLE and STARTING it holds none (02 R19, R27, R42). -/
def State.trackLegal (s : State) : Prop :=
  s.track.rows.length = s.settings.line.pGate + 1 ∧ s.track.window.legal s.settings.line.pGate ∧
  (∀ r ∈ s.track.rows, ∀ l c, r.lane l = .record c → c.legal) ∧
  (s.mode.mode = .idle ∨ s.mode.mode = .starting → noRecords s.track.rows = true)

/-- How many serials have been handed out since a record's own, its own included. -/
def State.age (s : State) (c : CardRecord) : Nat := (s.track.nextSerial - c.serial).toNat

/-- Serials run back from `next_serial` by position and, within a position, by lane, no further than four to a
position; so no two records share one (02 R25). -/
def State.serialsLegal (s : State) : Prop :=
  (∀ q l c, slotAt s.track.rows q l = .record c → 1 ≤ s.age c ∧ s.age c ≤ 4 * (q + 1)) ∧
  (∀ q l c q' l' c', slotAt s.track.rows q l = .record c → slotAt s.track.rows q' l' = .record c' →
    (q < q' ∨ (q = q' ∧ l'.number < l.number)) → s.age c < s.age c') ∧
  (∀ q l c q' l' c', slotAt s.track.rows q l = .record c → slotAt s.track.rows q' l' = .record c' →
    c.serial = c'.serial → q = q' ∧ l = l')

/-- A PRESSING seal part stands only at `p_seal` or the position after it, in the record and the lane that the
stroke in flight names (02 R23; 03 R63; 05 R97). -/
def State.sealLegal (s : State) : Prop :=
  ∀ q l c, slotAt s.track.rows q l = .record c → c.sealPart = some .pressing →
    (q = s.settings.line.pSeal ∨ q = s.settings.line.pSeal + 1) ∧
    ∃ x, s.press.stroke = some x ∧ ∃ k ∈ x.lanes, k.lane = l ∧ k.serial = c.serial

/-! ## Counts and notices -/

/-- A count held at its largest value (08 R148). -/
def saturated (k : BitVec 32) : Prop := k.toNat = countMax

/-- The two relations of a lane's counts, each until one of its counts saturates (08 R148). -/
def LaneCounts.balanced (k : LaneCounts) (live : Nat) : Prop :=
  (saturated k.entered ∨ saturated k.discharged ∨ saturated k.purged ∨
    k.entered.toNat = k.discharged.toNat + k.purged.toNat + live) ∧
  (saturated k.discharged ∨ saturated k.passed ∨ saturated k.rejected ∨ saturated k.sampled ∨
    k.discharged.toNat = k.passed.toNat + k.rejected.toNat + k.sampled.toNat)

/-- Every lane's counts balance with the records it holds (08 R148). -/
def State.countsBalanced (s : State) : Prop :=
  ∀ l, (s.discharge.bank.lanes.lane l).balanced (liveCount s.track.rows l)

/-- At most 32 notices, whose numbers run on by one up to the next notice number (10 R173). -/
def State.queueLegal (s : State) : Prop :=
  s.notices.queue.length ≤ 32 ∧
  ∀ i, ∀ n ∈ s.notices.queue[i]?,
    n.1 + BitVec.ofNat 8 (s.notices.queue.length - i) = s.notices.nextNumber

end Sys2Proof.Machine
end

