-- ==== Sys2Proof/WellFormed.lean ====
section
/-! DEFINITION. Which commands a sender can give: a payload fits a frame, a broadcast is one the part takes
with its fitting length (any other broadcast is BROADCAST_IGNORED), an unknown kind is unknown, and the request
an INDEX edge carries is one a sender can give by itself. -/

namespace Sys2Proof

/-- The payload and destination of a request are those of a frame the part can judge to it. -/
def wellFormedRequest (dest : Dest) (kind : Byte) (p : List Byte) : Bool :=
  decide (p.length ≤ Config.maxPayload) &&
    (match dest with
     | .unicast => true
     | .broadcast => broadcastKind kind && fitsKind kind p)

/-- A request the sender can give, or no request at all. -/
def Instr.requestFits (i : Instr) : Bool :=
  match requestParts i with
  | some (dest, kind, p) => wellFormedRequest dest kind p
  | none => true

/-- A command the sender can give. -/
def Instr.wellFormed (i : Instr) : Bool :=
  match i with
  | .unknownKind k => (requestOf .unicast k []).isNone
  | .indexEvent ⟨_, some r⟩ => r.instr.requestFits
  | i => i.requestFits

end Sys2Proof
end

