-- ==== Sys2Proof/Certificates/Slice0/Obligations.lean ====
section
/-! DEFINITION. The statements for the provers.

Conventions of the model that the statements rest on, none of them a rule of the manual: a request row stands for
the frame the part judges so, which `State.hears` says, and a sender's new frame replaces a reply not yet begun
(assumptions 7 and 8); an edge comes `after` ms on and brings its levels (assumptions 3 and 4), and an index edge
the request taken between the advance and the press's answer (assumption 24); a timer's row carries the clock on
to the timer's moment, `max s.now d` (assumption 2). -/

open Sys2Proof Sys2Proof.Machine

/-! ## The machine and the link -/

/-- One step runs the command at the front of the queue on the state with the queue's rest; on an empty queue
1 ms passes, which is the model's own choice (assumption 1). -/
def Obligations.StepRunsFrontCommand : Prop :=
  ∀ s : State,
    (∀ i rest, s.pending = i :: rest → step s = exec i { s with pending := rest }) ∧
    (s.pending = [] → step s = .next { s with now := s.now + 1 })

/-- Every command, with any operands and in any state, answers a next state and leaves the waiting commands
as they are: a step is whole and indivisible, and nothing stops the part. -/
def Obligations.EveryCommandCompletes : Prop :=
  ∀ (i : Instr) (s : State), ∃ t, exec i s = .next t ∧ t.pending = s.pending

/-- The frame a well-formed request travels in is complete, is judged to be that request, and reaches the
receive buffer of an armed receiver byte by byte (10 R167 to R170; 11 R187). -/
def Obligations.RequestFramesDecode : Prop :=
  ∀ (own : Byte) (i : Instr) (f : List Byte), 1 ≤ own.toNat → own.toNat ≤ 31 → i.wellFormed = true →
    encodeRequest own i = some f →
    judgeFrame own f = i ∧ frameComplete f = true ∧
    ∀ k : LinkUnit, k.receiver = .armed → k.buffer = [] →
      (f.foldl LinkUnit.take k).receiver = .frame ∧ (f.foldl LinkUnit.take k).buffer = f

/-- The CRC is checked first; then a foreign address is ignored, an unknown kind answered KIND, and a
broadcast that is none of the three kinds, or has no fitting length, ignored (10 R168 to R170). -/
def Obligations.FramesJudgedByAddress : Prop :=
  crc16 [0x31#8, 0x32#8, 0x33#8, 0x34#8, 0x35#8, 0x36#8, 0x37#8, 0x38#8, 0x39#8] = 0x29B1#16 ∧
  ∀ (own address kind : Byte) (p : List Byte), own ≠ 0#8 → p.length ≤ 250 →
    (address ≠ own → address ≠ 0#8 → judgeFrame own (frameBytes address kind p) = .foreignFrame) ∧
    (requestOf .unicast kind p = none → judgeFrame own (frameBytes own kind p) = .unknownKind kind) ∧
    ((kind ≠ 0x21#8 ∧ kind ≠ 0x23#8 ∧ kind ≠ 0x50#8) ∨ fitsKind kind p = false →
      judgeFrame own (frameBytes 0#8 kind p) = .broadcastIgnored) ∧
    (∀ c : BitVec 16, c ≠ crc16 (address :: kind :: byte p.length :: p) →
      judgeFrame own (0xA5#8 :: address :: kind :: byte p.length :: (p ++ be16 c.toNat)) = .frameCrcDiscard)

/-- A CONFIGURE LINE that carries the 28 fields READ LINE returns installs that record whole, with no field
clamped, whatever the working record was (01 R4, R5, R9; 11 section 11.4). -/
def Obligations.LineRecordRoundTrips : Prop :=
  ∀ c base : LineConfig, c.inRange →
    (lineBytes c).length = 48 ∧ buildCandidate (2 ^ 28 - 1) (lineBytes c) base = ⟨c, 0#32, []⟩

/-- The receiver's states: what each byte, an idle line and a gap do to it (10 R167, R168), and that it takes
no bytes while a reply is sent. -/
def Obligations.ReceiverFollowsLine : Prop :=
  (∀ (b : Byte) (s : State), s.phase = .running → (∀ r, s.link.reply ≠ .sending r) →
    (s.link.receiver = .hunt →
      exec (.linkByteReceived b) s = .next { s with link := { s.link with reply := .none } } ∧
      exec .lineIdleArmed s = .next { s with link := { s.link with receiver := .armed } }) ∧
    (s.link.receiver = .armed → b = 0xA5#8 →
      exec (.linkByteReceived b) s =
        .next { s with link := { s.link with receiver := .frame, buffer := [b], reply := .none } }) ∧
    (s.link.receiver = .armed → b ≠ 0xA5#8 →
      exec (.linkByteReceived b) s =
        .next { s with link := { s.link with receiver := .hunt, buffer := [], reply := .none } }) ∧
    (s.link.receiver = .frame →
      (frameComplete s.link.buffer = true ∨ (s.link.buffer.length = 3 ∧ 250 < b.toNat)) →
      exec (.linkByteReceived b) s =
        .next { s with link := { s.link with receiver := .hunt, buffer := [], reply := .none } } ∧
      exec (.frameOverrunDiscard b) s =
        .next { s with link := { s.link with receiver := .hunt, buffer := [], reply := .none } }) ∧
    (s.link.receiver = .frame → frameComplete s.link.buffer = false →
      ¬(s.link.buffer.length = 3 ∧ 250 < b.toNat) →
      exec (.linkByteReceived b) s =
        .next { s with link := { s.link with buffer := s.link.buffer ++ [b], reply := .none } }) ∧
    (s.link.receiver = .frame → frameComplete s.link.buffer = false →
      exec .frameGapTimeout s =
        .next { s with
          link := { s.link with receiver := .armed, buffer := [] }
          notices := { s.notices with flags := s.notices.flags ||| 0x100#12 } })) ∧
  (∀ (b : Byte) (s : State) (r : Reply), s.link.reply = .sending r →
    exec (.linkByteReceived b) s = .next s ∧ exec .lineIdleArmed s = .next s ∧
    exec .frameGapTimeout s = .next s)

/-- A discarded frame sets LINK_ERROR, a foreign frame and an ignored broadcast do nothing, an unknown kind is
answered KIND, and each leaves the receiver in ARMED; from HUNT and amid an incomplete frame none is taken
(10 R167 to R171). -/
def Obligations.JudgedFramesAnswered : Prop :=
  ∀ s : State,
    (s.hears .frameCrcDiscard = true →
      exec .frameCrcDiscard s =
        .next { s.afterFrame with notices := { s.notices with flags := s.notices.flags ||| 0x100#12 } }) ∧
    (s.hears .foreignFrame = true → exec .foreignFrame s = .next s.afterFrame) ∧
    (s.hears .broadcastIgnored = true → exec .broadcastIgnored s = .next s.afterFrame) ∧
    (∀ kind, s.hears (.unknownKind kind) = true → requestOf .unicast kind [] = none →
      exec (.unknownKind kind) s = .next (s.afterReply kind [14#8])) ∧
    (s.link.receiver = .hunt ∨ (s.link.receiver = .frame ∧ frameComplete s.link.buffer = false) →
      exec .frameCrcDiscard s = .next s ∧ exec .foreignFrame s = .next s ∧ exec .broadcastIgnored s = .next s ∧
      ∀ kind, exec (.unknownKind kind) s = .next s)

/-- A prepared reply is begun, sent, or abandoned by a byte that comes first; after it is sent the receiver is
in HUNT (10 R167, R171, R172). -/
def Obligations.RepliesBeginAndEnd : Prop :=
  ∀ (s : State) (r : Reply),
    (s.link.reply = .awaiting r → s.phase = .running →
      exec .replyBegin s = .next { s with link := { s.link with reply := .sending r } } ∧
      (s.link.receiver = .armed → ∀ b : Byte,
        exec (.replyAbandoned b) s =
          .next { s with link := { s.link with
            receiver := if b = 0xA5#8 then .frame else .hunt
            buffer := if b = 0xA5#8 then [b] else []
            reply := .none } })) ∧
    (s.link.reply = .sending r →
      exec .replySent s =
        .next { s with link := { s.link with receiver := .hunt, buffer := [], reply := .none } })

/-- A request whose length does not fit its kind is answered LENGTH, in every mode and during a store, with no
other effect; a broadcast so is ignored, and a frame the part does not hear, as none is in HUNT or amid an
incomplete frame, changes nothing (10 R167, R169, R170). -/
def Obligations.WrongLengthIsRefused : Prop :=
  ∀ (i : Instr) (dest : Dest) (kind : Byte) (p : List Byte) (s : State), requestParts i = some (dest, kind, p) →
    (s.link.receiver = .hunt ∨ (s.link.receiver = .frame ∧ frameComplete s.link.buffer = false) →
      s.hears i = false) ∧
    (s.hears i = false → exec i s = .next s) ∧
    (s.hears i = true → fitsKind kind p = false →
      exec i s = .next (match dest with
        | .unicast => s.afterReply kind [15#8]
        | .broadcast => s.afterFrame))

/-- The requests answered BUSY in STARTING, and those answered BUSY during a store in any mode, once the values
that are judged before the mode are in order; those values answered RANGE in every mode and during a store; and a
broadcast SOFT RESET or LATCH COUNTS refused with no reply and no effect (01 R12, R14, R16; 08 R141, R142, R149;
09 R156, R161, R164; 10 R169, R183). -/
def Obligations.BusyRequests : Prop :=
  (∀ (i : Instr) (kind : Byte) (p : List Byte) (s : State), requestParts i = some (.unicast, kind, p) →
    s.hears i = true → fitsKind kind p = true →
    (kind = 0x12#8 → 15 < byteAt p 0 → exec i s = .next (s.afterReply kind [5#8, 0#8])) ∧
    (kind = 0x13#8 → 15 < byteAt p 0 → exec i s = .next (s.afterReply kind [5#8])) ∧
    (kind = 0x15#8 → 7 < byteAt p 0 → exec i s = .next (s.afterReply kind [5#8, 0#8])) ∧
    (kind = 0x16#8 → 7 < byteAt p 0 → exec i s = .next (s.afterReply kind [5#8])) ∧
    (kind = 0x14#8 →
      3 < byteAt p 0 ∨ 15 < byteAt p 1 ∨ (∃ n : Fin 16, n.val = byteAt p 1 ∧ (s.settings.recipe n).valid = false) →
      exec i s = .next (s.afterReply kind [5#8]))) ∧
  (∀ s : State,
    (s.hears (.softReset .broadcast []) = true → s.mode.mode = .starting ∨ s.storing →
      exec (.softReset .broadcast []) s = .next s.afterFrame) ∧
    (s.hears (.latchCounts .broadcast []) = true → s.mode.mode = .starting →
      exec (.latchCounts .broadcast []) s = .next s.afterFrame)) ∧
  (∀ (i : Instr) (kind : Byte) (p : List Byte) (s : State), requestParts i = some (.unicast, kind, p) →
    s.hears i = true → fitsKind kind p = true →
    (kind = 0x12#8 ∨ kind = 0x13#8 → byteAt p 0 ≤ 15) → (kind = 0x15#8 ∨ kind = 0x16#8 → byteAt p 0 ≤ 7) →
    (kind = 0x14#8 → byteAt p 0 ≤ 3 ∧ ∃ n : Fin 16, n.val = byteAt p 1 ∧ (s.settings.recipe n).valid = true) →
    (s.mode.mode = .starting →
      kind ∉ [0x01#8, 0x02#8, 0x03#8, 0x05#8, 0x20#8, 0x21#8, 0x22#8, 0x51#8] →
      exec i s = .next (s.afterReply kind [3#8])) ∧
    (s.storing →
      kind ∈ [0x10#8, 0x12#8, 0x14#8, 0x15#8, 0x04#8, 0x45#8, 0x60#8, 0x61#8, 0x23#8] →
      exec i s = .next (s.afterReply kind [3#8])))

/-! ## Queries, flags and notices -/

/-- IDENTIFY and STATUS change nothing and return the part's capacities and its state; FETCH NOTICE removes the
oldest notice and clears the overflow indicator (10 R175, R178, R179; 11 section 11.5). -/
def Obligations.IdentifyStatusAndFetch : Prop :=
  (∀ s : State, s.hears (.identify []) = true →
    exec (.identify []) s =
      .next (s.afterReply 0x01#8
        [0#8, 0x3B#8, 0x01#8, s.link.address, byte s.link.rate.toNat, 4#8, 40#8, 16#8, 8#8])) ∧
  (∀ s : State, s.hears (.status []) = true →
    exec (.status []) s =
      .next (s.afterReply 0x02#8
        ([0#8, byte s.mode.mode.code, byte s.mode.haltCause.code, byte s.press.state.code,
          byte s.rhythm.state.code, byte (s.rhythm.lastInterval / 256), byte s.rhythm.lastInterval,
          byte s.grade.advised.code, byte s.grade.floor.code, byte s.grade.common.toNat,
          byte s.grade.strike, byte s.grade.cleanRun] ++
         Zone.all.flatMap (fun z =>
          [byte (s.zones.zone.zone z).health.code, byte ((s.zones.zone.zone z).held.toNat / 256),
           byte (s.zones.zone.zone z).held.toNat]) ++
         [byte (s.zones.pressure.toNat / 256), byte s.zones.pressure.toNat,
          byte (s.notices.flags.toNat / 256), byte s.notices.flags.toNat,
          byte ((if s.notices.overflow then 1 else 0) + (if s.store.valid then 2 else 0) +
            (if s.store.busy then 4 else 0)),
          byte s.notices.queue.length] ++
         be32 s.track.advances.toNat ++ be32 s.press.strokes.toNat))) ∧
  (∀ s : State, s.hears (.fetchNotice []) = true →
    (∀ n x rest, s.notices.queue = (n, x) :: rest →
      exec (.fetchNotice []) s =
        .next ({ s with notices := { s.notices with queue := rest, overflow := false } }.afterReply 0x05#8
          ([0#8, byte (if s.notices.overflow then 1 else 0), byte rest.length, n, byte x.kindCode,
            byte x.body.length] ++ x.body))) ∧
    (s.notices.queue = [] →
      exec (.fetchNotice []) s =
        .next ({ s with notices := { s.notices with overflow := false } }.afterReply 0x05#8
          [11#8, byte (if s.notices.overflow then 1 else 0), 0#8])))

/-- CLEAR FLAGS clears the flags named, or answers RANGE beyond the twelve; SET NOTICE MASK and SET RETURN SIZE
replace their settings, the size brought into 1 to 8 (10 R176, R177, R181). -/
def Obligations.FlagMaskAndSizeRequests : Prop :=
  (∀ (hi lo : Byte) (s : State), s.hears (.clearFlags [hi, lo]) = true →
    (hi.toNat < 16 →
      ∃ flags : BitVec 12, (∀ n < 12, flags.getLsbD n =
          (s.notices.flags.getLsbD n && !(hi.toNat * 256 + lo.toNat).testBit n)) ∧
        exec (.clearFlags [hi, lo]) s =
          .next ({ s with notices := { s.notices with flags := flags } }.afterReply 0x03#8
            [0#8, byte (flags.toNat / 256), byte flags.toNat])) ∧
    (16 ≤ hi.toNat → exec (.clearFlags [hi, lo]) s = .next (s.afterReply 0x03#8 [5#8]))) ∧
  (∀ (m : Byte) (s : State), s.mode.mode ≠ .starting → ¬s.storing →
    (s.hears (.setNoticeMask [m]) = true →
      exec (.setNoticeMask [m]) s =
        .next ({ s with settings := { s.settings with noticeMask := m } }.afterReply 0x04#8 [0#8, m])) ∧
    (s.hears (.setReturnSize [m]) = true →
      (1 ≤ m.toNat ∧ m.toNat ≤ 8 →
        exec (.setReturnSize [m]) s =
          .next ({ s with settings := { s.settings with returnSize := m.toNat } }.afterReply 0x45#8
            [0#8, m])) ∧
      (m.toNat = 0 →
        exec (.setReturnSize [m]) s =
          .next ({ s with settings := { s.settings with returnSize := 1 } }.afterReply 0x45#8
            [1#8, 1#8])) ∧
      (8 < m.toNat →
        exec (.setReturnSize [m]) s =
          .next ({ s with settings := { s.settings with returnSize := 8 } }.afterReply 0x45#8
            [1#8, 8#8]))))

/-- An event sets its flag whatever the mask and whatever room the queue has; a masked notice is not made; a
notice is appended with the next number while fewer than 32 stand there, and dropped otherwise (10 R173). -/
def Obligations.NoticeQueueTakesEvents : Prop :=
  ∀ (q : NoticeUnit) (mask : BitVec 8) (n : Notice),
    (q.push mask n).hasFlag n.flag = true ∧
    (∀ f, q.hasFlag f = true → (q.push mask n).hasFlag f = true) ∧
    (∀ f, f ≠ n.flag → f ≠ .queueOverflow → (q.push mask n).hasFlag f = q.hasFlag f) ∧
    (mask.getLsbD n.flag.bit = false →
      (q.push mask n).queue = q.queue ∧ (q.push mask n).overflow = q.overflow ∧
      (q.push mask n).nextNumber = q.nextNumber ∧
      (q.push mask n).hasFlag .queueOverflow = q.hasFlag .queueOverflow) ∧
    (mask.getLsbD n.flag.bit = true → q.queue.length < 32 →
      (q.push mask n).queue = q.queue ++ [(q.nextNumber, n)] ∧ (q.push mask n).overflow = q.overflow ∧
      (q.push mask n).nextNumber = q.nextNumber + 1#8 ∧
      (q.push mask n).hasFlag .queueOverflow = q.hasFlag .queueOverflow) ∧
    (mask.getLsbD n.flag.bit = true → 32 ≤ q.queue.length →
      (q.push mask n).queue = q.queue ∧ (q.push mask n).overflow = true ∧
      (q.push mask n).nextNumber = q.nextNumber ∧ (q.push mask n).hasFlag .queueOverflow = true)

/-! ## Settings -/

/-- The six relations in their order: the check number is that of the first that does not hold (01 R2). -/
def Obligations.LineConsistencyCheck : Prop :=
  ∀ c : LineConfig,
    let holds (k : Nat) : Prop :=
      match k with
      | 1 => c.pPlace < c.pSeal ∧ c.pSeal < c.pVision ∧ c.pVision < c.pGate
      | 2 => c.dFill ≤ c.pSeal
      | 3 => c.pPlace + 1 ≤ c.dPlace ∧ c.dPlace ≤ c.pSeal
      | 4 => c.pVision + 1 ≤ c.dVision ∧ c.dVision ≤ c.pGate
      | 5 => c.periods.q0 < c.periods.q1 ∧ c.periods.q1 < c.periods.q2 ∧ c.periods.q2 < c.periods.q3
      | 6 => c.recoverRun = 0 ∨ c.recoverRun ≥ c.cleanRun
      | _ => True
    (lineCheck c = 0 ↔ ∀ k, holds k) ∧
    (∀ k, k ≠ 0 → (lineCheck c = k ↔ ¬holds k ∧ ∀ j < k, holds j)) ∧
    (∀ lanes, lineCheck { c with lanes := lanes } = lineCheck c)

/-- CONFIGURE LINE in IDLE with no store: RANGE for a field above 27, CONFIG with the failing check, or the
candidate installed with the track rebuilt, the common set recomputed and nothing else of the track, press,
zones and counts touched; over grades as IDLE has them, the advised grade by R123, no GRADE event, and a change of
that grade or of its period taken by the Rhythm Monitor; in RUN and HALTED it is answered MODE (01 R3, R4, R6, R7;
02 R42; 06 R114; 07 R123, R125, R134). What counts as a change, the E and the order of the RHYTHM events and the
restore-idle timer are the model's readings (assumptions 16, 17, 19). -/
def Obligations.ConfigureLineJudged : Prop :=
  ∀ (p : List Byte) (s : State), s.hears (.configureLine p) = true → fitsKind 0x10#8 p = true →
    ¬s.storing →
    (s.mode.mode = .run ∨ s.mode.mode = .halted →
      exec (.configureLine p) s = .next (s.afterReply 0x10#8 [4#8])) ∧
    (s.mode.mode = .idle →
      (2 ^ 28 ≤ beNat (p.take 4) → exec (.configureLine p) s = .next (s.afterReply 0x10#8 [5#8])) ∧
      (beNat (p.take 4) < 2 ^ 28 →
        let k := buildCandidate (beNat (p.take 4)) (p.drop 4) s.settings.line
        (lineCheck k.line ≠ 0 →
          exec (.configureLine p) s =
            .next (s.afterReply 0x10#8 ([12#8, byte (lineCheck k.line)] ++ be32 k.clamped.toNat))) ∧
        (lineCheck k.line = 0 →
          ∃ t, exec (.configureLine p) s = .next t ∧
            t.settings = { s.settings with line := k.line } ∧
            t.track = { s.track with
              rows := List.replicate (k.line.pGate + 1) (Quad.const .unknown)
              window := ⟨0, k.line.pGate, 0, 3⟩ } ∧
            t.grade.common = commonSet t.settings s.grade.capability ∧
            t.grade.capability = s.grade.capability ∧
            (s.grade.floor = .g1 → t.grade.floor = .g1) ∧
            (s.gradeLegal → s.settingsTaken t t.settings) ∧
            t.link = { s.link with
              receiver := .armed
              buffer := []
              reply := .awaiting ⟨0x90#8,
                [byte (if k.clamped = 0#32 then 0 else 1), 0#8] ++ be32 k.clamped.toNat⟩ } ∧
            t.zones = s.zones ∧ t.press = s.press ∧ t.discharge = s.discharge ∧ t.store = s.store ∧
            t.mode = s.mode ∧ t.pins = s.pins ∧ t.phase = s.phase ∧ t.now = s.now)))

/-- WRITE RECIPE: RANGE with field 0 for a number above 15; MODE for a recipe in use in RUN or HALTED; RANGE with
the field number for a bad grades set, dose order or dwell order; otherwise the recipe replaced whole by its
clamped values and answered OK or CLAMPED with the mask of clamped fields, the common set recomputed where an
enabled lane has the recipe and a change of advised grade taken by the Rhythm Monitor (the E and the order of its
events by assumptions 16 and 17), and all else as it was; that the dose order is judged before the dwell order is the
model's reading of step 6 (assumption 25) (01 R12, R13; 07 R122, R125; 11 section 11.4). -/
def Obligations.WriteRecipeJudged : Prop :=
  (∀ (p : List Byte) (s : State), s.hears (.writeRecipe p) = true → fitsKind 0x12#8 p = true → 15 < byteAt p 0 →
    exec (.writeRecipe p) s = .next (s.afterReply 0x12#8 [5#8, 0#8])) ∧
  (∀ (p : List Byte) (n : Fin 16) (s : State), s.hears (.writeRecipe p) = true → fitsKind 0x12#8 p = true →
    byteAt p 0 = n.val → s.mode.mode ≠ .starting → ¬s.storing →
    let f := p.drop 1
    let dwellMin := clamp 1 250 (wordAt f 11)
    let dwellMax := clamp 1 250 (wordAt f 13)
    let clash := (s.mode.mode = .run ∨ s.mode.mode = .halted) ∧ s.recipeInUse n = true
    let badSet := byteAt f 17 = 0 ∨ 15 < byteAt f 17
    let badDose := wordAt f 7 < wordAt f 5 ∨ wordAt f 9 < wordAt f 7
    let clamped (k : Nat) : Bool :=
      match k with
      | 0 => decide (1 < byteAt f 0)
      | 1 => decide (wordAt f 1 < 320 ∨ 1000 < wordAt f 1)
      | 2 => decide (wordAt f 3 < 64 ∨ 1023 < wordAt f 3)
      | 6 => decide (wordAt f 11 < 1 ∨ 250 < wordAt f 11)
      | 7 => decide (wordAt f 13 < 1 ∨ 250 < wordAt f 13)
      | 8 => decide (15 < byteAt f 15)
      | 9 => decide (127 < byteAt f 16)
      | _ => false
    (clash → exec (.writeRecipe p) s = .next (s.afterReply 0x12#8 [4#8])) ∧
    (¬clash → badSet → exec (.writeRecipe p) s = .next (s.afterReply 0x12#8 [5#8, 10#8])) ∧
    (¬clash → ¬badSet → badDose → exec (.writeRecipe p) s = .next (s.afterReply 0x12#8 [5#8, 3#8])) ∧
    (¬clash → ¬badSet → ¬badDose → dwellMax < dwellMin →
      exec (.writeRecipe p) s = .next (s.afterReply 0x12#8 [5#8, 6#8])) ∧
    (¬clash → ¬badSet → ¬badDose → dwellMin ≤ dwellMax →
      ∃ t, exec (.writeRecipe p) s = .next t ∧
        t.settings.recipe n =
          ⟨decide (0 < byteAt f 0), clamp 320 1000 (wordAt f 1), clamp 64 1023 (wordAt f 3), wordAt f 5,
            wordAt f 7, wordAt f 9, dwellMin, dwellMax, min (byteAt f 15) 15, min (byteAt f 16) 127,
            BitVec.ofNat 4 (byteAt f 17)⟩ ∧
        (∀ m, m ≠ n → t.settings.recipe m = s.settings.recipe m) ∧
        { t.settings with recipes := s.settings.recipes } = s.settings ∧
        (s.settings.assignedToEnabled n = true →
          let common := commonSet t.settings s.grade.capability
          let advised := (fastestFrom common s.grade.floor).getD s.grade.advised
          t.grade = { s.grade with common := common, advised := advised, lines := gradeLines advised } ∧
          s.periodTaken (advised ≠ s.grade.advised) (periodOf s.settings.line advised) advised
            s.settings.noticeMask t.rhythm t.notices) ∧
        (s.settings.assignedToEnabled n = false →
          t.grade = s.grade ∧ t.rhythm = s.rhythm ∧ t.notices = s.notices) ∧
        t.track = s.track ∧ t.press = s.press ∧ t.zones = s.zones ∧ t.discharge = s.discharge ∧
        t.mode = s.mode ∧ t.store = s.store ∧
        ∃ mask : BitVec 16, (∀ k, mask.getLsbD k = clamped k) ∧
          t.link = (s.afterReply 0x12#8
            (byte (if mask = 0#16 then 0 else 1) :: [byte (mask.toNat / 256), byte mask.toNat])).link))

/-- READ LINE, READ RECIPE and LOOKUP change nothing and return what stands there; a number, position or lane
beyond the last is answered RANGE (01 R9, R14; 03 R62; 11 R188, sections 11.4, 11.5). That LOOKUP's reply holds no
registration offset and no defect code, though R55 and R56 say that LOOKUP shows them, is the model's reading: the
reply is the bytes that R188 and its table give and R62 names (assumption 22). -/
def Obligations.ReadRequestsAnswer : Prop :=
  ∀ s : State, s.mode.mode ≠ .starting →
    (s.hears (.readLine []) = true →
      exec (.readLine []) s = .next (s.afterReply 0x11#8 (0#8 :: lineBytes s.settings.line))) ∧
    (∀ b : Byte, s.hears (.readRecipe [b]) = true →
      (∀ n : Fin 16, n.val = b.toNat →
        exec (.readRecipe [b]) s =
          .next (s.afterReply 0x13#8
            (0#8 :: byte (if s.recipeInUse n then 1 else 0) :: recipeBytes (s.settings.recipe n)))) ∧
      (15 < b.toNat → exec (.readRecipe [b]) s = .next (s.afterReply 0x13#8 [5#8]))) ∧
    (∀ q b : Byte, s.hears (.lookup [q, b]) = true →
      (∀ l : Lane, l.number = b.toNat → q.toNat ≤ s.settings.line.pGate →
        exec (.lookup [q, b]) s =
          .next (s.afterReply 0x33#8
            ([0#8, q, b] ++ be32 s.track.advances.toNat ++
              (match slotAt s.track.rows q.toNat l with
               | .record c =>
                 0#8 :: (be16 c.serial.toNat ++
                   [byte c.recipe.val, byte (presenceBits c), byte (sealCode c.sealPart), byte (markByte c)])
               | .unknown => [1#8]
               | .none => [2#8])))) ∧
      (s.settings.line.pGate < q.toNat ∨ 3 < b.toNat →
        exec (.lookup [q, b]) s = .next (s.afterReply 0x33#8 [5#8])))

/-- READ RULE: RANGE above 7, judged before the mode; BUSY in STARTING; otherwise the rule's five fields after
its number, with no state changed, a rule never written reading as the defaults of R140 (08 R142). -/
def Obligations.ReadRuleAnswers : Prop :=
  (∀ (b : Byte) (s : State), s.hears (.readRule [b]) = true →
    (7 < b.toNat → exec (.readRule [b]) s = .next (s.afterReply 0x16#8 [5#8])) ∧
    (∀ n : Fin 8, n.val = b.toNat →
      (s.mode.mode = .starting → exec (.readRule [b]) s = .next (s.afterReply 0x16#8 [3#8])) ∧
      (s.mode.mode ≠ .starting →
        exec (.readRule [b]) s = .next (s.afterReply 0x16#8 (0#8 :: ruleBytes n s.settings.rules[n.val]))))) ∧
  (∀ n : Fin 8, defaultSettings.rules[n.val] = ⟨false, none, none, .any, .reject⟩ ∧
    ruleBytes n defaultSettings.rules[n.val] = [byte n.val, 0#8, 0x10#8, 4#8, 0x10#8, 1#8])

/-- WRITE RULE with the bytes READ RULE returns for a rule installs that rule and changes nothing else, an
active code above 1 being taken as yes and answered CLAMPED; a code out of its set is answered RANGE with its
field number (08 R141; 11 section 11.4). That of several such codes the first in the order recipe, lane, mark
condition, outcome gives the number is the model's reading of step 3 (assumption 26). -/
def Obligations.WriteRuleJudged : Prop :=
  ∀ s : State, s.mode.mode ≠ .starting → ¬s.storing →
    (∀ (n : Fin 8) (a : Byte) (r : Rule),
      let p := byte n.val :: a :: (ruleBytes n r).drop 2
      s.hears (.writeRule p) = true →
      let w : Rule := { r with active := decide (0 < a.toNat) }
      exec (.writeRule p) s =
        .next ({ s with settings := { s.settings with rules := s.settings.rules.set n.val w } }.afterReply
          0x15#8 (byte (if 1 < a.toNat then 1 else 0) :: ruleBytes n w))) ∧
    (∀ n a r l m f : Byte, s.hears (.writeRule [n, a, r, l, m, f]) = true →
      (7 < n.toNat → exec (.writeRule [n, a, r, l, m, f]) s = .next (s.afterReply 0x15#8 [5#8, 0#8])) ∧
      (n.toNat ≤ 7 → 0x10 < r.toNat →
        exec (.writeRule [n, a, r, l, m, f]) s = .next (s.afterReply 0x15#8 [5#8, 1#8])) ∧
      (n.toNat ≤ 7 → r.toNat ≤ 0x10 → 4 < l.toNat →
        exec (.writeRule [n, a, r, l, m, f]) s = .next (s.afterReply 0x15#8 [5#8, 2#8])) ∧
      (n.toNat ≤ 7 → r.toNat ≤ 0x10 → l.toNat ≤ 4 → 0x11 < m.toNat →
        exec (.writeRule [n, a, r, l, m, f]) s = .next (s.afterReply 0x15#8 [5#8, 3#8])) ∧
      (n.toNat ≤ 7 → r.toNat ≤ 0x10 → l.toNat ≤ 4 → m.toNat ≤ 0x11 → 2 < f.toNat →
        exec (.writeRule [n, a, r, l, m, f]) s = .next (s.afterReply 0x15#8 [5#8, 4#8])))

/-- ASSIGN RECIPE: RANGE for a bad lane, number or recipe; CONFLICT in RUN and HALTED where an enabled lane's
new recipe would empty the common set; otherwise the lane's assignment replaced, the common set recomputed
and, where it changed, the floor and the counts restored (01 R16, R17; 07 R122, R133). -/
def Obligations.AssignRecipeJudged : Prop :=
  ∀ (a b : Byte) (s : State), s.hears (.assignRecipe [a, b]) = true → s.mode.mode ≠ .starting → ¬s.storing →
    (3 < a.toNat ∨ 15 < b.toNat →
      exec (.assignRecipe [a, b]) s = .next (s.afterReply 0x14#8 [5#8])) ∧
    (∀ (l : Lane) (n : Fin 16), l.number = a.toNat → n.val = b.toNat →
      let st := { s.settings with assigned := s.settings.assigned.setLane l n }
      let clash := (s.mode.mode = .run ∨ s.mode.mode = .halted) ∧ s.settings.enabled l = true ∧
        s.settings.assigned.lane l ≠ n ∧ commonSet st s.grade.capability = 0#4
      ((s.settings.recipe n).valid = false →
        exec (.assignRecipe [a, b]) s = .next (s.afterReply 0x14#8 [5#8])) ∧
      ((s.settings.recipe n).valid = true → clash →
        exec (.assignRecipe [a, b]) s = .next (s.afterReply 0x14#8 [6#8])) ∧
      ((s.settings.recipe n).valid = true → ¬clash →
        ∃ t, exec (.assignRecipe [a, b]) s = .next t ∧ t.settings = st ∧
          t.grade.common = commonSet st s.grade.capability ∧
          (t.grade.common = s.grade.common → t.grade = s.grade ∧ t.rhythm = s.rhythm) ∧
          (t.grade.common ≠ s.grade.common →
            t.grade.floor = .g1 ∧ t.grade.strike = 0 ∧ t.grade.cleanRun = 0 ∧ t.grade.recovery = 0) ∧
          t.grade.capability = s.grade.capability ∧ t.track = s.track ∧ t.press = s.press ∧
          t.discharge = s.discharge ∧ t.mode = s.mode ∧ t.zones = s.zones ∧
          t.link = (s.afterReply 0x14#8 [0#8]).link))

/-- STORE SETTINGS begins a store, its completion sets `store_valid` with the working settings in the stored
copy and raises STORE, and RECALL SETTINGS in IDLE puts a good stored copy in force over a fresh track; over
grades as IDLE has them it is handed on as CONFIGURE LINE is, with the advised grade by R123, no GRADE event and a
change taken by the Rhythm Monitor (06 R114; 07 R123, R125, R134; 10 R183, R184). What counts as a change, the mask
its RHYTHM events meet, their E and order, and the restore-idle timer are the model's readings (assumptions 16, 17,
19). -/
def Obligations.StoreAndRecall : Prop :=
  ∀ s : State,
    (s.hears (.storeSettings []) = true → s.mode.mode ≠ .starting → ¬s.storing →
      exec (.storeSettings []) s = .next ({ s with store := ⟨none, false, true⟩ }.afterReply 0x60#8 [0#8])) ∧
    (s.phase = .running → s.storing →
      exec .storeComplete s =
        .next { s with
          store := ⟨some s.settings, true, false⟩
          notices := s.notices.push s.settings.noticeMask (.store .stored) }) ∧
    (s.hears (.recallSettings []) = true → ¬s.storing →
      (s.mode.mode = .run ∨ s.mode.mode = .halted →
        exec (.recallSettings []) s = .next (s.afterReply 0x61#8 [4#8])) ∧
      (s.mode.mode = .idle → s.store.stored = none →
        exec (.recallSettings []) s = .next (s.afterReply 0x61#8 [16#8])) ∧
      (∀ st, s.mode.mode = .idle → s.store.stored = some st →
        ∃ t, exec (.recallSettings []) s = .next t ∧ t.settings = st ∧
          t.track = { s.track with
            rows := List.replicate (st.line.pGate + 1) (Quad.const .unknown)
            window := ⟨0, st.line.pGate, 0, 3⟩ } ∧
          t.grade.common = commonSet st s.grade.capability ∧ t.grade.capability = s.grade.capability ∧
          (s.gradeLegal → s.settingsTaken t st) ∧
          t.store = s.store ∧ t.discharge = s.discharge ∧ t.press = s.press ∧ t.zones = s.zones ∧
          t.mode = s.mode ∧ t.link = (s.afterReply 0x61#8 [0#8]).link))

/-! ## Grades -/

/-- ADVERTISE GRADES replaces the mask and recomputes the common set; where the set changed the floor is G1 and
the counts 0; the advised grade is the fastest member not faster than the floor, or held where the set is
empty; emptying a set that was not empty sets GRADE_CONFLICT (07 R121 to R124, R133). -/
def Obligations.AdvertiseGradesTaken : Prop :=
  ∀ (m : Byte) (s : State), s.hears (.advertiseGrades [m]) = true → s.mode.mode ≠ .starting →
    (15 < m.toNat → exec (.advertiseGrades [m]) s = .next (s.afterReply 0x17#8 [5#8])) ∧
    (m.toNat ≤ 15 →
      ∃ t, exec (.advertiseGrades [m]) s = .next t ∧
        t.grade.capability = BitVec.ofNat 4 m.toNat ∧
        t.grade.common = commonSet s.settings (BitVec.ofNat 4 m.toNat) ∧
        (t.grade.common = s.grade.common →
          t.grade = { s.grade with capability := t.grade.capability } ∧ t.notices = s.notices ∧
          t.rhythm = s.rhythm) ∧
        (t.grade.common ≠ s.grade.common →
          t.grade.floor = .g1 ∧ t.grade.strike = 0 ∧ t.grade.cleanRun = 0 ∧ t.grade.recovery = 0 ∧
          t.grade.advised = (fastestFrom t.grade.common .g1).getD s.grade.advised ∧
          t.grade.lines = gradeLines t.grade.advised) ∧
        (t.notices.hasFlag .gradeConflict = true ↔
          s.notices.hasFlag .gradeConflict = true ∨ (t.grade.common = 0#4 ∧ s.grade.common ≠ 0#4)) ∧
        t.settings = s.settings ∧ t.track = s.track ∧ t.press = s.press ∧ t.discharge = s.discharge ∧
        t.mode = s.mode ∧ t.zones = s.zones ∧ t.store = s.store ∧
        t.link = (s.afterReply 0x17#8 [0#8, byte m.toNat, byte t.grade.common.toNat,
          byte t.grade.floor.code, byte t.grade.advised.code]).link)

/-- RESTORE GRADE and the restore-idle signal return the floor to G1 with every count 0 and the advised grade
recomputed, and touch neither the mask, the common set, the track, the press nor the counter bank; the stall
enters STOPPED with the restore-idle timer at 0 and one RHYTHM event of cause STALL (06 R113, R115, R118; 07 R130
to R132). That the event's E is the period of the grade advised then is the model's reading of R115
(assumption 16). -/
def Obligations.RestoresAndStall : Prop :=
  let restored (s t : State) : Prop :=
    t.grade = { s.grade with
      floor := .g1, strike := 0, cleanRun := 0, recovery := 0
      advised := (fastestFrom s.grade.common .g1).getD s.grade.advised
      lines := gradeLines ((fastestFrom s.grade.common .g1).getD s.grade.advised) } ∧
    (t.grade.advised = s.grade.advised → t.notices = s.notices) ∧
    (t.grade.advised ≠ s.grade.advised → t.notices.hasFlag .grade = true) ∧
    t.settings = s.settings ∧ t.track = s.track ∧ t.press = s.press ∧ t.discharge = s.discharge ∧
    t.mode = s.mode ∧ t.zones = s.zones
  (∀ s : State, s.hears (.restoreGrade []) = true → s.mode.mode ≠ .starting →
    ∃ t, exec (.restoreGrade []) s = .next t ∧ restored s t ∧ t.now = s.now ∧
      t.link = (s.afterReply 0x18#8 [0#8, byte s.grade.floor.code, byte s.grade.advised.code,
        byte t.grade.floor.code, byte t.grade.advised.code]).link) ∧
  (∀ (s : State) (t0 : Nat), s.phase = .running → s.rhythm.state = .stopped →
    s.rhythm.restoreStart = some t0 → s.rhythm.signalGiven = false →
    ∃ t, exec .restoreIdleSignal s = .next t ∧ restored s t ∧
      t.rhythm = { s.rhythm with signalGiven := true } ∧
      t.now = max s.now (t0 + 1000 * s.settings.line.restoreIdle) ∧ t.link = s.link) ∧
  (∀ s : State, s.phase = .running → s.rhythm.state ≠ .stopped →
    let m := max s.now (s.rhythm.stallStart + 3 * s.expectedPeriod)
    exec .stall s =
      .next { s with
        now := m
        rhythm := { s.rhythm with
          state := .stopped, good := 0, slip := 0, deadline := none, restoreStart := some m
          signalGiven := false }
        notices := s.notices.push s.settings.noticeMask
          (.rhythm s.rhythm.state .stopped .stall .none 0 s.expectedPeriod s.grade.advised) })

/-- What a stroke outcome does to the counts, the floor and the advised grade: strikes, the downgrade to the
fastest slower member, the hold with SEAL_LIMIT, forgiveness, and the recovery (07 R126 to R129). -/
def Obligations.OutcomesMoveTheFloor : Prop :=
  ∀ s : State,
    let g := s.grade
    let cfg := s.settings.line
    (s.takeOutcome .neither).grade = { g with cleanRun := 0, recovery := 0 } ∧
    (g.strike + 1 < cfg.strikeLimit →
      (s.takeOutcome .failing).grade = { g with strike := g.strike + 1, cleanRun := 0, recovery := 0 } ∧
      (s.takeOutcome .failing).notices = s.notices) ∧
    (cfg.strikeLimit ≤ g.strike + 1 →
      (∀ dest, fastestSlower g.common g.advised = some dest →
        (s.takeOutcome .failing).grade =
          { g with floor := dest, advised := dest, lines := gradeLines dest, strike := 0, cleanRun := 0,
                   recovery := 0 } ∧
        (s.takeOutcome .failing).discharge.bank.downgrades = satInc s.discharge.bank.downgrades ∧
        (s.takeOutcome .failing).notices.hasFlag .grade = true ∧
        (s.rhythm.state = .locked ∨ s.rhythm.state = .slipping →
          (s.takeOutcome .failing).rhythm.deadline = none ∧
          (s.takeOutcome .failing).rhythm.state ≠ .locked)) ∧
      (fastestSlower g.common g.advised = none →
        (s.takeOutcome .failing).grade = { g with strike := 0, cleanRun := 0, recovery := 0 } ∧
        (s.takeOutcome .failing).notices.hasFlag .sealLimit = true ∧
        (s.takeOutcome .failing).rhythm = s.rhythm ∧
        (s.takeOutcome .failing).discharge = s.discharge)) ∧
    (let counted := (s.takeOutcome .clean).grade
     (cfg.cleanRun ≤ g.cleanRun + 1 → counted.strike = 0 ∧ counted.cleanRun = 0) ∧
     (g.cleanRun + 1 < cfg.cleanRun → counted.strike = g.strike ∧ counted.cleanRun = g.cleanRun + 1) ∧
     (g.floor = .g1 ∨ cfg.recoverRun = 0 →
       counted.recovery = g.recovery ∧ counted.floor = g.floor ∧ counted.advised = g.advised) ∧
     (g.floor ≠ .g1 → g.recovery + 1 < cfg.recoverRun →
       counted.recovery = g.recovery + 1 ∧ counted.floor = g.floor ∧ counted.advised = g.advised) ∧
     (g.floor ≠ .g1 → 0 < cfg.recoverRun → cfg.recoverRun ≤ g.recovery + 1 →
       counted.recovery = 0 ∧
       counted.floor = (slowestFaster g.common g.advised).getD .g1 ∧
       counted.advised = (fastestFrom g.common counted.floor).getD g.advised))

/-! ## Modes and resets -/

/-- START in IDLE: CONFIG with its reason, CONFLICT with the two sets, or STARTING with the prime timer at
200 ms and no event; ALREADY or MODE elsewhere. RESUME: RUN with INTERLOCK where open confirmation holds in
HALTED, FAULT where it does not, MODE or ALREADY elsewhere (09 R155, R159). -/
def Obligations.StartAndResumeJudged : Prop :=
  (∀ s : State, s.hears (.start []) = true →
    (s.mode.mode = .starting ∨ s.mode.mode = .run →
      exec (.start []) s = .next (s.afterReply 0x20#8 [2#8])) ∧
    (s.mode.mode = .halted → exec (.start []) s = .next (s.afterReply 0x20#8 [4#8])) ∧
    (s.mode.mode = .idle →
      (s.settings.line.lanes = 0#4 →
        exec (.start []) s = .next (s.afterReply 0x20#8 [12#8, 1#8, 0xFF#8])) ∧
      (∀ l : Lane, s.settings.enabled l = true →
        (s.settings.recipe (s.settings.assigned.lane l)).valid = false →
        (∀ k : Lane, k.number < l.number → s.settings.enabled k = true →
          (s.settings.recipe (s.settings.assigned.lane k)).valid = true) →
        exec (.start []) s = .next (s.afterReply 0x20#8 [12#8, 2#8, byte l.number])) ∧
      (s.settings.line.lanes ≠ 0#4 →
        (∀ l : Lane, s.settings.enabled l = true →
          (s.settings.recipe (s.settings.assigned.lane l)).valid = true) →
        (s.grade.common = 0#4 →
          exec (.start []) s =
            .next (s.afterReply 0x20#8 [6#8, 0#8, byte s.grade.capability.toNat])) ∧
        (s.grade.common ≠ 0#4 →
          exec (.start []) s =
            .next ({ s with mode := { s.mode with mode := .starting, primeDue := some (s.now + 200) } }.afterReply
              0x20#8 [0#8]))))) ∧
  (∀ s : State, s.hears (.resume []) = true →
    (s.mode.mode = .idle ∨ s.mode.mode = .starting →
      exec (.resume []) s = .next (s.afterReply 0x22#8 [4#8])) ∧
    (s.mode.mode = .run → exec (.resume []) s = .next (s.afterReply 0x22#8 [2#8])) ∧
    (s.mode.mode = .halted →
      (s.pins.switches = ⟨true, false⟩ →
        exec (.resume []) s =
          .next ({ s with
            mode := ⟨.run, .none, none, true⟩
            notices := s.notices.push s.settings.noticeMask
              (.mode .halted .run .resumed (.halt s.mode.haltCause) s.track.advances) }.afterReply
            0x22#8 [0#8])) ∧
      (s.pins.switches ≠ ⟨true, false⟩ →
        exec (.resume []) s = .next (s.afterReply 0x22#8 [13#8]))))

/-- The end of the prime: IDLE with the first FAULTED zone that an enabled lane reads, or with PRESS where open
confirmation does not hold, otherwise RUN with INTERLOCK; each with its MODE event and nothing else changed
(09 R157, R165). -/
def Obligations.PrimeEndJudged : Prop :=
  ∀ (s : State) (d : Nat), s.phase = .running → s.mode.mode = .starting → s.mode.primeDue = some d →
    let judged (z : Zone) : Prop := ∃ l : Lane, s.settings.enabled l = true ∧ s.settings.line.zoneMap.lane l = z
    let ended (m : ModeUnit) (cause : ModeCause) (detail : ModeDetail) : Host.Outcome State Fault Refusal :=
      .next { s with
        now := max s.now d
        mode := m
        notices := s.notices.push s.settings.noticeMask (.mode .starting m.mode cause detail s.track.advances) }
    (∀ z : Zone, judged z → (s.zones.zone.zone z).health = .faulted →
      (∀ y : Zone, y.number < z.number → judged y → (s.zones.zone.zone y).health = .healthy) →
      exec .primeEnd s = ended ⟨.idle, .none, none, false⟩ .startFailed (.zone z)) ∧
    ((∀ z : Zone, judged z → (s.zones.zone.zone z).health = .healthy) →
      (s.pins.switches = ⟨true, false⟩ →
        exec .primeEnd s = ended ⟨.run, .none, none, true⟩ .started .none) ∧
      (s.pins.switches ≠ ⟨true, false⟩ →
        exec .primeEnd s = ended ⟨.idle, .none, none, false⟩ .startFailed .press))

/-- STOP: ALREADY in IDLE; in RUN and HALTED any stroke ended, every record counted as purged and every slot
UNKNOWN, the floor restored, IDLE with INTERLOCK dropped and a MODE event of cause STOPPED after the stroke's and
the restore's, the serials, the advance count, the window, the flaps and the settings kept; in STARTING the prime
abandoned, with the same event (02 R44; 07 R132; 09 R160, R165). -/
def Obligations.StopEndsTheRun : Prop :=
  ∀ (dest : Dest) (s : State), s.hears (.stop dest []) = true →
    let answered (st : Byte) : State :=
      match dest with
      | .unicast => s.afterReply 0x21#8 [st]
      | .broadcast => s.afterFrame
    (s.mode.mode = .idle → exec (.stop dest []) s = .next (answered 2#8)) ∧
    (s.mode.mode ≠ .idle →
      ∃ t, exec (.stop dest []) s = .next t ∧ t.link = (answered 0#8).link ∧
        t.mode = ⟨.idle, .none, none, false⟩ ∧
        t.track = { s.track with rows := s.track.rows.map fun _ => Quad.const .unknown } ∧
        t.grade.floor = .g1 ∧ t.grade.strike = 0 ∧ t.grade.cleanRun = 0 ∧ t.grade.recovery = 0 ∧
        t.grade.capability = s.grade.capability ∧ t.grade.common = s.grade.common ∧
        t.notices.hasFlag .mode = true ∧
        (let ended := if s.press.state.inStroke = true ∧ s.mode.mode ≠ .starting then s.terminate .stop else s
         t.notices = (ended.restore .stop).notices.push s.settings.noticeMask
           (.mode s.mode.mode .idle .stopped
             (if s.mode.mode = .halted then .halt s.mode.haltCause else .none) s.track.advances)) ∧
        (s.press.state.inStroke = true → s.mode.mode ≠ .starting →
          t.press.pressClose = false ∧ t.press.stroke = none ∧ t.press.state.inStroke = false ∧
          (s.press.stroke.isSome = true → t.notices.hasFlag .stroke = true)) ∧
        (s.press.state.inStroke = false → t.press = s.press) ∧
        (s.mode.mode ≠ .starting → ∀ l : Lane,
          t.discharge.bank.lanes.lane l =
            { s.discharge.bank.lanes.lane l with
              purged := satAdd (s.discharge.bank.lanes.lane l).purged (liveCount s.track.rows l) }) ∧
        (s.mode.mode = .starting → t.discharge = s.discharge) ∧
        t.discharge.flaps = s.discharge.flaps ∧ t.discharge.sample = s.discharge.sample ∧
        t.discharge.snapshot = s.discharge.snapshot ∧ t.settings = s.settings ∧ t.store = s.store ∧
        t.zones = s.zones ∧ t.now = s.now)

/-- SOFT RESET, with no store and outside STARTING: the track purged and counted, the window whole, IDLE, the
grades restored, the rhythm STOPPED, flaps and sample dropped, the press taken from its switches, the queue and
the flags empty; settings, stored copy, mask of grades, zones, serials, counts and clock kept (09 R161). -/
def Obligations.SoftResetClears : Prop :=
  ∀ (dest : Dest) (s : State), s.hears (.softReset dest []) = true → s.mode.mode ≠ .starting → ¬s.storing →
    ∃ t, exec (.softReset dest []) s = .next t ∧
      t.mode = ⟨.idle, .none, none, false⟩ ∧
      t.track = { s.track with
        rows := s.track.rows.map fun _ => Quad.const .unknown
        window := ⟨0, s.settings.line.pGate, 0, 3⟩ } ∧
      (∀ l : Lane,
        t.discharge.bank.lanes.lane l =
          { s.discharge.bank.lanes.lane l with
            purged := satAdd (s.discharge.bank.lanes.lane l).purged (liveCount s.track.rows l) }) ∧
      t.discharge.flaps = Quad.const ⟨none, none⟩ ∧ t.discharge.sample = ⟨none, none⟩ ∧
      t.discharge.snapshot = s.discharge.snapshot ∧
      t.grade.floor = .g1 ∧ t.grade.strike = 0 ∧ t.grade.cleanRun = 0 ∧ t.grade.recovery = 0 ∧
      t.grade.capability = s.grade.capability ∧
      t.grade.common = commonSet s.settings s.grade.capability ∧
      t.rhythm = { s.rhythm with
        state := .stopped, lastInterval := 0, good := 0, slip := 0, deadline := none
        restoreStart := some s.now, signalGiven := false } ∧
      t.press.pressClose = false ∧ t.press.stroke = none ∧ t.press.settleDue = none ∧ t.press.closeDue = none ∧
      t.press.closeTimeouts = 0 ∧ t.press.strokes = s.press.strokes ∧
      (s.pins.switches = ⟨true, false⟩ → t.press.state = .opened ∧ t.press.openDue = none) ∧
      (s.pins.switches ≠ ⟨true, false⟩ →
        t.press.state = .releasing ∧ t.press.openDue = some (s.now + s.settings.line.openTimeout)) ∧
      t.notices = ⟨[], false, 0#8, 0#12⟩ ∧
      t.link = { s.link with
        receiver := .armed
        buffer := []
        window := none
        reply := match dest with
          | .unicast => .awaiting ⟨0xA3#8, [0#8]⟩
          | .broadcast => .none } ∧
      t.settings = s.settings ∧ t.store = s.store ∧ t.zones = s.zones ∧ t.pins = s.pins ∧ t.now = s.now ∧
      t.phase = s.phase

/-- Power-on, loss of power and the RESET pin drop the outputs, discard the stroke without a trace, empty the
queue and the Link Port, and end a store with the stored copy bad; a pin reset counts the purge and keeps
serials and counts, power clears them. The load then installs the stored copy or the defaults with LOST and
enters IDLE (09 R162 to R164; 10 R185, R186). The model's own choice is what the part holds from the start of a
sequence to its end (assumption 11): the settings kept, the serials and counts cleared already at the start, the
slots UNKNOWN at loss of power, and POWER_ON taken in any state; and that POWER_ON begins the load whatever level
RESET has (assumption 23). -/
def Obligations.ResetSequences : Prop :=
  let dropped (s t : State) : Prop :=
    t.press.pressClose = false ∧ t.press.stroke = none ∧ t.mode = ⟨.idle, .none, none, false⟩ ∧
    t.grade.lines = 0#2 ∧ t.discharge.flaps = Quad.const ⟨none, none⟩ ∧ t.discharge.sample = ⟨none, none⟩ ∧
    t.track.rows = s.track.rows.map (fun _ => Quad.const .unknown) ∧
    t.notices = ⟨[], false, 0#8, 0#12⟩ ∧ t.link.reply = .none ∧ t.link.window = none ∧
    (s.storing → t.store.stored = none ∧ t.store.valid = false ∧ t.store.busy = false) ∧
    (¬s.storing → t.store = s.store) ∧ t.settings = s.settings
  let cleared (t : State) : Prop :=
    t.track.nextSerial = 0#16 ∧ t.track.advances = 0#32 ∧ t.press.strokes = 0#32 ∧
    t.discharge.bank = zeroBank ∧ t.discharge.snapshot = none
  (∀ s : State, ∃ t, exec .powerOn s = .next t ∧ dropped s t ∧ cleared t ∧ t.phase = .loading .powerOn) ∧
  (∀ s : State, ∃ t, exec .powerLoss s = .next t ∧ dropped s t ∧ cleared t ∧ t.phase = .off) ∧
  (∀ s : State, s.phase ≠ .off →
    ∃ t, exec .pinReset s = .next t ∧ dropped s t ∧ t.phase = .held ∧
      t.track.nextSerial = s.track.nextSerial ∧ t.track.advances = s.track.advances ∧
      t.press.strokes = s.press.strokes ∧ t.discharge.snapshot = s.discharge.snapshot ∧
      (∀ l : Lane,
        t.discharge.bank.lanes.lane l =
          { s.discharge.bank.lanes.lane l with
            purged := satAdd (s.discharge.bank.lanes.lane l).purged (liveCount s.track.rows l) })) ∧
  (∀ s : State, s.phase = .held → exec .resetRelease s = .next { s with phase := .loading .pin }) ∧
  (∀ (s : State) (k : ResetKind) (address : BitVec 5) (rate : BitVec 2), s.phase = .loading k →
    let st := s.store.stored.getD defaultSettings
    ∃ t, exec (.settingsLoad address rate) s = .next t ∧ t.phase = .running ∧
      t.mode = ⟨.idle, .none, none, false⟩ ∧ t.settings = st ∧
      t.track.rows = List.replicate (st.line.pGate + 1) (Quad.const .unknown) ∧
      t.track.window = ⟨0, st.line.pGate, 0, 3⟩ ∧
      t.zones = ⟨Quad.const ⟨.healthy, 0#12, 0⟩, 0#10, s.now + 4⟩ ∧
      t.rhythm = freshRhythm s.now ∧
      t.grade.capability = 0xF#4 ∧ t.grade.common = commonSet st 0xF#4 ∧ t.grade.floor = .g1 ∧
      t.grade.advised = (fastestFrom t.grade.common .g1).getD .g1 ∧
      t.grade.lines = gradeLines t.grade.advised ∧
      t.discharge.flaps = Quad.const ⟨none, none⟩ ∧ t.discharge.sample = ⟨none, none⟩ ∧
      t.press.pressClose = false ∧ t.press.stroke = none ∧ t.press.closeTimeouts = 0 ∧
      (t.press.state = .opened ↔ s.pins.switches = ⟨true, false⟩) ∧
      t.link = ⟨.hunt, [], .none, none, if address = 0#5 then 31#8 else address.setWidth 8, rate⟩ ∧
      t.store = ⟨s.store.stored, s.store.stored.isSome, false⟩ ∧
      (s.store.stored.isSome = true → t.notices = ⟨[], false, 0#8, 0#12⟩) ∧
      (s.store.stored = none → t.notices = ⟨[(0#8, .store .lost)], false, 1#8, 0x080#12⟩) ∧
      (k = .powerOn → cleared t) ∧
      (k = .pin → t.track.nextSerial = s.track.nextSerial ∧ t.track.advances = s.track.advances ∧
        t.press.strokes = s.press.strokes ∧ t.discharge.bank = s.discharge.bank ∧
        t.discharge.snapshot = s.discharge.snapshot))

/-! ## Reports, marks and windows -/

/-- The acceptance decision and the three reports: UNKNOWN, REPEAT, EARLY and LATE change nothing; an accepted
report writes its clamped part and its mark to the record found and to nothing else (03 R49 to R57). -/
def Obligations.ReportsJudged : Prop :=
  let judged (i : Instr) (kind : Byte) (serial : Serial) (present : CardRecord → Bool) (station deadline : Nat)
      (write : CardRecord → CardRecord) (mark : CardRecord → Option MarkKind) (clamped : Bool) (s : State) : Prop :=
    s.hears i = true → s.mode.mode ≠ .starting →
    (s.findCard serial = none → exec i s = .next (s.afterReply kind [7#8])) ∧
    (∀ f, s.findCard serial = some f →
      let at2 := [byte f.lane.number, byte f.position]
      (present f.card = true → exec i s = .next (s.afterReply kind (10#8 :: at2))) ∧
      (present f.card = false → f.position < station →
        exec i s = .next (s.afterReply kind (8#8 :: at2))) ∧
      (present f.card = false → station ≤ f.position → deadline ≤ f.position →
        exec i s = .next (s.afterReply kind (9#8 :: at2))) ∧
      (present f.card = false → station ≤ f.position → f.position < deadline →
        let r : CardRecord × MarkResult :=
          match mark f.card with
          | some k => (write f.card).addMark k
          | none => (write f.card, .none)
        exec i s =
          .next ({ s with track := { s.track with
            rows := putSlot s.track.rows f.position f.lane (.record r.1) } }.afterReply kind
              (byte (if clamped then 1 else 0) :: (at2 ++ [byte r.2.code])))))
  ∀ (hi lo x y z : Byte) (s : State),
    let serial : Serial := BitVec.ofNat 16 (hi.toNat * 256 + lo.toNat)
    let offset : Int := (BitVec.ofNat 16 (y.toNat * 256 + z.toNat)).toInt
    let shown : Int := max (-127) (min 127 offset)
    judged (.reportFill [hi, lo, x]) 0x30#8 serial (fun c => c.fill.isSome) 0 s.settings.line.dFill
      (fun c => { c with fill := some (min x.toNat 15) })
      (fun c =>
        let expected := (s.settings.recipe c.recipe).items
        if min x.toNat 15 < expected then some .fillShort
        else if expected < min x.toNat 15 then some .fillOver else none)
      (decide (15 < x.toNat)) s ∧
    judged (.reportPlace [hi, lo, x, y, z]) 0x31#8 serial (fun c => c.place.isSome) s.settings.line.pPlace
      s.settings.line.dPlace
      (fun c => { c with place := some ⟨decide (0 < x.toNat), shown⟩ })
      (fun c =>
        if x.toNat = 0 then some .cardMissing
        else if (s.settings.recipe c.recipe).regTol < shown.natAbs then some .regOffset else none)
      (decide (1 < x.toNat ∨ shown ≠ offset)) s ∧
    judged (.reportVision [hi, lo, x, y]) 0x32#8 serial (fun c => c.vision.isSome) s.settings.line.pVision
      s.settings.line.dVision
      (fun c => { c with vision := some ⟨decide (0 < x.toNat), y⟩ })
      (fun _ => if 0 < x.toNat then some .visionFail else none)
      (decide (1 < x.toNat)) s

/-- MARK CARD adds OPERATOR to the record found, or answers UNKNOWN; MARK WINDOW adds it to every record of the
window and to no other slot, and its three numbers are the records that took it, those that held it already and
those whose full list it overflowed, in all the records there (02 R27, R40, R43). -/
def Obligations.MarkingAddsOperator : Prop :=
  (∀ (hi lo : Byte) (s : State), s.hears (.markCard [hi, lo]) = true → s.mode.mode ≠ .starting →
    let serial : Serial := BitVec.ofNat 16 (hi.toNat * 256 + lo.toNat)
    (s.findCard serial = none → exec (.markCard [hi, lo]) s = .next (s.afterReply 0x34#8 [7#8])) ∧
    (∀ f, s.findCard serial = some f →
      let r := f.card.addMark .operator
      exec (.markCard [hi, lo]) s =
        .next ({ s with track := { s.track with
          rows := putSlot s.track.rows f.position f.lane (.record r.1) } }.afterReply 0x34#8
            [0#8, byte f.lane.number, byte f.position, byte r.2.code]))) ∧
  (∀ s : State, s.hears (.markWindow []) = true → s.mode.mode ≠ .starting →
    let w := s.track.window
    let inside (q : Nat) (l : Lane) : Prop :=
      w.firstPos ≤ q ∧ q ≤ w.lastPos ∧ w.firstLane ≤ l.number ∧ l.number ≤ w.lastLane
    ∃ (rows : List Row) (a h o : Nat),
      exec (.markWindow []) s =
        .next ({ s with track := { s.track with rows := rows } }.afterReply 0x41#8
          [0#8, byte a, byte h, byte o]) ∧
      rows.length = s.track.rows.length ∧
      (∀ q l, ¬inside q l → slotAt rows q l = slotAt s.track.rows q l) ∧
      (∀ q l, inside q l → slotAt rows q l =
        match slotAt s.track.rows q l with
        | .record c => .record (c.addMark .operator).1
        | .unknown => .unknown
        | .none => .none) ∧
      (let counted (test : CardRecord → Bool) : Nat :=
        w.slots.countP fun x =>
          match slotAt s.track.rows x.1 x.2 with
          | .record c => test c
          | .unknown => false
          | .none => false
       a = counted (fun c => decide (MarkKind.operator ∉ c.marks ∧ c.marks.length < 6)) ∧
       h = counted (fun c => decide (MarkKind.operator ∈ c.marks)) ∧
       o = counted (fun c => decide (MarkKind.operator ∉ c.marks ∧ 6 ≤ c.marks.length))) ∧
      (∀ q l, (q, l) ∈ w.slots ↔ inside q l) ∧ w.slots.Nodup ∧
      a + h + o = (w.slots.filter fun x => (slotAt s.track.rows x.1 x.2).isRecord).length)

/-- SET WINDOW: BUSY in STARTING; the last position clamped to `p_gate` and the lanes to D; RANGE where a first
value then stands after its last, the window left as it was; otherwise the window set, with OK or CLAMPED
(02 R41). -/
def Obligations.SetWindowJudged : Prop :=
  ∀ (a b c d : Byte) (s : State), s.hears (.setWindow [a, b, c, d]) = true →
    let last := if s.settings.line.pGate < b.toNat then s.settings.line.pGate else b.toNat
    let lane1 := if 3 < c.toNat then 3 else c.toNat
    let lane2 := if 3 < d.toNat then 3 else d.toNat
    let changed := s.settings.line.pGate < b.toNat ∨ 3 < c.toNat ∨ 3 < d.toNat
    (s.mode.mode = .starting → exec (.setWindow [a, b, c, d]) s = .next (s.afterReply 0x40#8 [3#8])) ∧
    (s.mode.mode ≠ .starting →
      (last < a.toNat ∨ lane2 < lane1 →
        exec (.setWindow [a, b, c, d]) s = .next (s.afterReply 0x40#8 [5#8])) ∧
      (a.toNat ≤ last → lane1 ≤ lane2 →
        (changed →
          exec (.setWindow [a, b, c, d]) s =
            .next ({ s with track := { s.track with window := ⟨a.toNat, last, lane1, lane2⟩ } }.afterReply
              0x40#8 [1#8, a, byte last, byte lane1, byte lane2])) ∧
        (¬changed →
          exec (.setWindow [a, b, c, d]) s =
            .next ({ s with track := { s.track with window := ⟨a.toNat, last, lane1, lane2⟩ } }.afterReply
              0x40#8 [0#8, a, byte last, byte lane1, byte lane2]))))

/-- READ WINDOW takes a snapshot of the window's slots and returns its first chunk, NEXT the next of an OPEN
snapshot or EMPTY, ABORT discards it; the track is only read (10 R180 to R182). -/
def Obligations.WindowReads : Prop :=
  let chunk (s : State) (kind : Byte) (w : WindowSnapshot) : State :=
    let part := (w.entries.drop w.cursor).take s.settings.returnSize
    let bytes := part.flatMap entryBytes
    let t := s.afterReply kind
      ([0#8, byte w.entries.length, byte (w.entries.length - (w.cursor + part.length))] ++
        be32 w.advances.toNat ++ [byte part.length, byte w.cursor, byte bytes.length] ++ bytes)
    { t with link := { t.link with window := some { w with cursor := w.cursor + part.length } } }
  ∀ s : State, s.mode.mode ≠ .starting →
    (s.hears (.readWindow []) = true →
      ∃ w : WindowSnapshot, exec (.readWindow []) s = .next (chunk s 0x42#8 w) ∧ w.cursor = 0 ∧
        w.advances = s.track.advances ∧
        (∀ e, e ∈ w.entries ↔
          s.track.window.firstPos ≤ e.position ∧ e.position ≤ s.track.window.lastPos ∧
          s.track.window.firstLane ≤ e.lane.number ∧ e.lane.number ≤ s.track.window.lastLane ∧
          e.slot = slotAt s.track.rows e.position e.lane) ∧
        w.entries.Pairwise (fun e e' =>
          e.position < e'.position ∨ (e.position = e'.position ∧ e.lane.number < e'.lane.number))) ∧
    (s.hears (.nextChunk []) = true →
      (∀ w, s.link.window = some w → w.cursor < w.entries.length →
        exec (.nextChunk []) s = .next (chunk s 0x43#8 w)) ∧
      ((∀ w, s.link.window = some w → w.entries.length ≤ w.cursor) →
        exec (.nextChunk []) s = .next (s.afterReply 0x43#8 [11#8, 0#8]))) ∧
    (s.hears (.abort []) = true →
      (∀ w, s.link.window = some w →
        exec (.abort []) s =
          .next ({ s with link := { s.link with window := none } }.afterReply 0x44#8
            [0#8, byte (w.entries.length - w.cursor)])) ∧
      (s.link.window = none → exec (.abort []) s = .next (s.afterReply 0x44#8 [2#8])))

/-- LATCH COUNTS copies the bank once and is ALREADY until it is read; READ COUNTS returns and ends the
snapshot, or returns the live counts; CLEAR COUNTS sets every count to 0 and each entered count to the records
the lane holds (08 R149 to R151). -/
def Obligations.CountRequests : Prop :=
  ∀ s : State,
    (∀ dest, s.hears (.latchCounts dest []) = true → s.mode.mode ≠ .starting →
      ∃ t, exec (.latchCounts dest []) s = .next t ∧
        t.discharge = { s.discharge with
          snapshot := some (s.discharge.snapshot.getD ⟨s.discharge.bank, s.track.advances⟩) } ∧
        t.link = (match dest with
          | .unicast => (s.afterReply 0x50#8 [if s.discharge.snapshot.isSome then 2#8 else 0#8]).link
          | .broadcast => s.afterFrame.link) ∧
        { t with discharge := s.discharge, link := s.link } = s) ∧
    (s.hears (.readCounts []) = true →
      (∀ k, s.discharge.snapshot = some k →
        exec (.readCounts []) s =
          .next ({ s with discharge := { s.discharge with snapshot := none } }.afterReply 0x51#8
            (0#8 :: 1#8 :: (be32 k.advances.toNat ++ k.bank.list.flatMap fun (n : BitVec 32) => be32 n.toNat)))) ∧
      (s.discharge.snapshot = none →
        exec (.readCounts []) s =
          .next (s.afterReply 0x51#8
            (0#8 :: 0#8 :: (be32 s.track.advances.toNat ++
              s.discharge.bank.list.flatMap fun (n : BitVec 32) => be32 n.toNat))))) ∧
    (s.hears (.clearCounts []) = true → s.mode.mode ≠ .starting →
      ∃ bank : CounterBank,
        exec (.clearCounts []) s =
          .next ({ s with discharge := { s.discharge with bank := bank, snapshot := none } }.afterReply
            0x52#8 [0#8]) ∧
        (∀ l : Lane, bank.lanes.lane l = { zeroLaneCounts with
          entered := BitVec.ofNat 32 (min (liveCount s.track.rows l) 4294967295) }) ∧
        bank.marks = Vector.replicate 16 0#32 ∧ bank.strokes = 0#32 ∧ bank.failing = 0#32 ∧
        bank.downgrades = 0#32)

/-! ## The index -/

/-- An edge within 20 ms of the last accepted one does nothing, and the request it carries is taken by itself; any
other is judged by its interval, its warning and the rhythm's state, which moves as 06 section 6.3 says, with the
deadline computed anew or ended. A stroke in flight then ends with cause INDEX, and its outcome may move the grade
and the rhythm with it (05 R96; 06 R105 to R112, R116; 07 R126). -/
def Obligations.IndexJudgedByRhythm : Prop :=
  ∀ (after : Nat) (between : Option TrackRequest) (s : State),
    let m := s.now + after
    let c := s.settings.line
    let interval := min 65535 (m - s.rhythm.stallStart)
    let lower := s.expectedPeriod * (100 - c.tol) / 100
    let upper := s.expectedPeriod * (100 + c.tol) / 100
    let good : Prop :=
      ¬(c.warnInUse = true ∧ s.rhythm.warnSeen = false) ∧ lower ≤ interval ∧ interval ≤ upper
    let r : RhythmUnit :=
      { s.rhythm with lastInterval := interval, stallStart := m, warnSeen := false, lastEdge := some m }
    let deadline := m + (if c.releaseLead < lower then lower - c.releaseLead else 0)
    let judged (x : RhythmUnit) : Prop :=
      (s.rhythm.state = .stopped →
        x = { r with state := .acquiring, good := 0, slip := 0, lastInterval := 0, restoreStart := none }) ∧
      (s.rhythm.state = .acquiring →
        (good → c.lockCount ≤ r.good + 1 →
          x = { r with state := .locked, good := 0, slip := 0, deadline := some deadline }) ∧
        (good → r.good + 1 < c.lockCount → x = { r with good := r.good + 1 }) ∧
        (¬good → x = { r with good := 0 })) ∧
      (s.rhythm.state = .locked →
        (good → x = { r with deadline := some deadline }) ∧
        (¬good → x = { r with state := .slipping, slip := 1, deadline := none })) ∧
      (s.rhythm.state = .slipping →
        (good → x = { r with state := .locked, good := 0, slip := 0, deadline := some deadline }) ∧
        (¬good → c.slipLimit ≤ r.slip + 1 → x = { r with state := .acquiring, good := 0, slip := 0 }) ∧
        (¬good → r.slip + 1 < c.slipLimit → x = { r with slip := r.slip + 1 }))
    (s.phase ≠ .running ∨ (∃ t0, s.rhythm.lastEdge = some t0 ∧ m < t0 + 20) →
      (between = none → exec (.indexEvent ⟨after, between⟩) s = .next { s with now := m }) ∧
      (∀ q, between = some q → exec (.indexEvent ⟨after, between⟩) s = exec q.instr { s with now := m })) ∧
    (s.phase = .running → (∀ t0, s.rhythm.lastEdge = some t0 → t0 + 20 ≤ m) →
      ∃ t x, exec (.indexEvent ⟨after, between⟩) s = .next t ∧ judged x ∧ t.now = m ∧
        (t.rhythm.state ≠ s.rhythm.state → t.notices.hasFlag .rhythm = true) ∧
        (s.press.state.inStroke = false → t.rhythm = x ∧ t.grade = s.grade) ∧
        (s.press.state.inStroke = true →
          let v := ({ s with now := m, rhythm := x } : State).terminate .index
          t.rhythm = v.rhythm ∧ t.grade = v.grade))

/-- An accepted index. In RUN and HALTED the track advances: the gate row is handed to the Discharge Unit, every
slot moves one position, a record that lacks a part where it is due gains its mark and raises DEADLINE, each enabled
lane receives a new record with the next serial and the lane's recipe and any other lane NONE, the counts rise, and
ADVANCE is raised last; in IDLE and STARTING the track and the counts stand. Then the request the edge carries is
taken, if there is one, and then a stroke in flight ends with cause INDEX, over the track as the advance left it
(02 R25, R29 to R39; 03 R60; 05 R96; 08 R137). The notices are stated where the press raises none after the advance;
elsewhere their order is open (assumption 5). A request between is the model's own operand (assumption 24), as is
the E of a first index (assumption 16). -/
def Obligations.IndexMovesTheTrack : Prop :=
  ∀ (after : Nat) (between : Option TrackRequest) (s : State), s.phase = .running →
    (∀ t0, s.rhythm.lastEdge = some t0 → t0 + 20 ≤ s.now + after) →
    let m := s.now + after
    let c := s.settings.line
    let gate := rowAt s.track.rows c.pGate
    let missing (q : Nat) (x : CardRecord) : List MarkKind :=
      (if q = c.dFill ∧ x.fill = none then [.fillMissing] else []) ++
      (if q = c.dPlace ∧ x.place = none then [.placeMissing] else []) ++
      (if q = c.dVision ∧ x.vision = none then [.visionMissing] else [])
    let due (q : Nat) (x : CardRecord) : List MarkKind :=
      missing q x ++ (if q = c.pSeal + 1 ∧ x.sealPart = none then [.notSealed] else [])
    let rank (l : Lane) : Nat := Lane.all.countP fun k => s.settings.enabled k && decide (k.number < l.number)
    let serial (l : Lane) : Serial := s.track.nextSerial + BitVec.ofNat 16 (rank l)
    let deadlines : List Notice :=
      (List.range c.pGate).flatMap fun q => Lane.all.flatMap fun l =>
        match slotAt s.track.rows q l with
        | .record x =>
          (missing (q + 1) x).zipIdx.map fun k =>
            .deadline x.serial l (q + 1) k.1
              (decide (((x.addMarks ((missing (q + 1) x).take k.2)).addMark k.1).2 ≠ .overflowed))
        | .unknown => []
        | .none => []
    let gone (l : Lane) : LeftSlot :=
      match gate.lane l with
      | .record x => .record x.serial ((slotFate s.settings l (gate.lane l)).getD .pass)
      | .unknown => .unknown ((slotFate s.settings l (gate.lane l)).getD .pass)
      | .none => .none
    let advanced : Notice :=
      .advance (s.track.advances + 1#32)
        (Quad.ofLanes fun l => if s.settings.enabled l then some (serial l) else none) (Quad.ofLanes gone)
    let judgement : Judgement :=
      if c.warnInUse = true ∧ s.rhythm.warnSeen = false then .noWarning
      else if min 65535 (m - s.rhythm.stallStart) < s.expectedPeriod * (100 - c.tol) / 100 then .short
      else if s.expectedPeriod * (100 + c.tol) / 100 < min 65535 (m - s.rhythm.stallStart) then .long
      else .inside
    let changed (x : RhythmUnit) : List Notice :=
      if x.state = s.rhythm.state then []
      else if s.rhythm.state = .stopped then
        [.rhythm .stopped x.state .index .none 0 s.expectedPeriod s.grade.advised]
      else
        [.rhythm s.rhythm.state x.state .index judgement (min 65535 (m - s.rhythm.stallStart)) s.expectedPeriod
          s.grade.advised]
    let raised (ns : List Notice) : NoticeUnit :=
      ns.foldl (fun q n => q.push s.settings.noticeMask n) s.notices
    let handed := (({ s with now := m } : State).dischargeRow gate).discharge
    let ended (w : State) : State := if s.press.state.inStroke then w.terminate .index else w
    ∃ u w t, exec (.indexEvent ⟨after, between⟩) s = .next t ∧
      { u with track := s.track, rhythm := s.rhythm, discharge := s.discharge, notices := s.notices } =
        { s with now := m } ∧
      u.rhythm = ({ s with now := m } : State).judgeEdge.restartStall.rhythm ∧
      (s.mode.mode = .idle ∨ s.mode.mode = .starting →
        u.track = s.track ∧ u.discharge = s.discharge ∧ u.notices = raised (changed u.rhythm)) ∧
      (s.mode.mode = .run ∨ s.mode.mode = .halted →
        (s.track.rows.length = c.pGate + 1 → u.track.rows.length = c.pGate + 1) ∧
        (∀ q l, q < c.pGate →
          slotAt u.track.rows (q + 1) l =
            match slotAt s.track.rows q l with
            | .record x => .record (x.addMarks (due (q + 1) x))
            | .unknown => .unknown
            | .none => .none) ∧
        (∀ l, slotAt u.track.rows 0 l =
          if s.settings.enabled l then
            .record ⟨serial l, s.settings.assigned.lane l, none, none, none, none, [], false⟩
          else .none) ∧
        u.track.nextSerial = s.track.nextSerial + BitVec.ofNat 16 (Lane.all.countP fun k => s.settings.enabled k) ∧
        u.track.advances = s.track.advances + 1#32 ∧ u.track.window = s.track.window ∧
        u.discharge = { handed with bank := { handed.bank with lanes := Quad.ofLanes fun l =>
          let k := handed.bank.lanes.lane l
          { k with entered := if s.settings.enabled l then satInc k.entered else k.entered } } } ∧
        u.notices = raised (changed u.rhythm ++ deadlines ++ [advanced]) ∧
        t.notices.hasFlag .advance = true) ∧
      (between = none → w = u) ∧ (∀ q, between = some q → exec q.instr u = .next w) ∧
      t.track = (ended w).track ∧ t.discharge = (ended w).discharge ∧
      (s.press.state = .opened ∨ (s.mode.mode ≠ .run ∧ s.press.state.inStroke = false) → t.notices = w.notices) ∧
      t.link = w.link ∧ t.settings = s.settings ∧ t.store = s.store ∧ t.zones = s.zones ∧ t.pins = s.pins ∧
      t.phase = s.phase ∧ t.now = m

/-- The press and an accepted index: SETTLING from OPEN in RUN; a settle given up; a stroke ended with the
valve dropped; nothing in RELEASING and STUCK; and a halt with cause INDEX_CLOSED in RUN wherever the press was
not OPEN (05 R84, R96, R102, R103; 09 R158). -/
def Obligations.PressAnswersIndex : Prop :=
  ∀ (after : Nat) (between : Option TrackRequest) (s : State), s.phase = .running →
    (∀ t0, s.rhythm.lastEdge = some t0 → t0 + 20 ≤ s.now + after) →
    let m := s.now + after
    ∃ t, exec (.indexEvent ⟨after, between⟩) s = .next t ∧
      (s.press.state = .opened → t.mode = s.mode ∧
        (s.mode.mode = .run →
          t.press = { s.press with state := .settling, settleDue := some (m + s.settings.line.settle) }) ∧
        (s.mode.mode ≠ .run → t.press = s.press)) ∧
      (s.press.state = .settling → t.press = { s.press with state := .opened, settleDue := none }) ∧
      (s.press.state = .releasing ∨ s.press.state = .stuck → t.press = s.press) ∧
      (s.press.state = .closing ∨ s.press.state = .dwell →
        (s.pins.switches = ⟨true, false⟩ →
          t.press = { s.press with
            state := .opened, pressClose := false, closeDue := none, openDue := none, stroke := none }) ∧
        (s.pins.switches ≠ ⟨true, false⟩ →
          t.press = { s.press with
            state := .releasing, pressClose := false, closeDue := none, stroke := none
            openDue := some (m + s.settings.line.openTimeout) }) ∧
        (s.press.stroke.isSome = true → t.notices.hasFlag .stroke = true)) ∧
      (s.press.state ≠ .opened →
        (s.mode.mode = .run → t.mode = ⟨.halted, .indexClosed, none, false⟩ ∧ t.notices.hasFlag .mode = true) ∧
        (s.mode.mode ≠ .run → t.mode = s.mode))

/-! ## The stroke -/

/-- The termination of a stroke, over a track whose records have serials of their own: the valve drops, the
press is RELEASING or OPEN, each participating record still PRESSING receives its verdict, cause, dose and
dwell and its marks in order, no other slot changes, STROKE is raised with every participating lane, and the outcome
then goes to the Grade Selector, a failing one counted (04 R80, R81; 05 R97 to R100). -/
def Obligations.TerminationWritesResults : Prop :=
  ∀ (s : State) (x : StrokeContext) (cause : EndCause), s.press.stroke = some x →
    (∀ q l c q' l' c', slotAt s.track.rows q l = .record c → slotAt s.track.rows q' l' = .record c' →
      c.serial = c'.serial → q = q' ∧ l = l') →
    x.lanes.Pairwise (fun k k' => k.serial ≠ k'.serial) →
    let verdict (k : StrokeLane) : Verdict :=
      if k.blind then .sensor else if k.dose < k.doseMin then .underbond
      else if k.doseMax < k.dose then .scorch else .bonded
    let cut (k : StrokeLane) : Bool :=
      (cause == .warning || cause == .predicted || cause == .stop || cause == .index) && !k.blind &&
        decide (k.dose < k.doseTarget)
    let marks (k : StrokeLane) : List MarkKind :=
      (match verdict k with
       | .bonded => []
       | .underbond => [.underbond]
       | .scorch => [.scorch]
       | .sensor => [.sensor]) ++
      (if cause = .closeTimeout then [.notSealed] else []) ++ (if cut k then [.dwellCut] else []) ++
      (if x.startLocked then [] else [.cadence]) ++ (if cause = .index then [.indexClosed] else [])
    let failing : Prop := ∃ k ∈ x.lanes, verdict k = .underbond ∨ cut k = true
    let clean : Prop := ¬failing ∧ (∃ k ∈ x.lanes, k.blind = false) ∧
      ∀ k ∈ x.lanes, k.blind = false → verdict k = .bonded
    let t := s.terminate cause
    t.press.pressClose = false ∧ t.press.stroke = none ∧ t.press.closeDue = none ∧
    (s.pins.switches = ⟨true, false⟩ → t.press.state = .opened ∧ t.press.openDue = none) ∧
    (s.pins.switches ≠ ⟨true, false⟩ →
      t.press.state = .releasing ∧ t.press.openDue = some (s.now + s.settings.line.openTimeout)) ∧
    (∀ q l c k, slotAt s.track.rows q l = .record c → k ∈ x.lanes → k.serial = c.serial →
      c.sealPart = some .pressing →
      slotAt t.track.rows q l =
        .record ({ c with sealPart := some (.final (verdict k) cause k.dose x.n) }.addMarks (marks k))) ∧
    (∀ q l, (∀ c, slotAt s.track.rows q l = .record c →
        c.sealPart ≠ some .pressing ∨ ∀ k ∈ x.lanes, k.serial ≠ c.serial) →
      slotAt t.track.rows q l = slotAt s.track.rows q l) ∧
    t.notices.hasFlag .stroke = true ∧
    (x.lanes.Pairwise (fun k k' => k.lane ≠ k'.lane) →
      ∃ reports : Quad (Option StrokeReport),
        (∀ l, (∀ k ∈ x.lanes, k.lane ≠ l) → reports.lane l = none) ∧
        (∀ k ∈ x.lanes, ∃ applied : Bool, reports.lane k.lane = some ⟨applied, k.serial, k.dose, verdict k⟩ ∧
          (applied = true ↔ ∃ q l c, slotAt s.track.rows q l = .record c ∧ c.serial = k.serial ∧
            c.sealPart = some .pressing)) ∧
        let u : State := { s with
          notices := s.notices.push s.settings.noticeMask (.stroke x.number cause x.n x.startLocked reports) }
        (failing → t.notices = (u.takeOutcome .failing).notices) ∧
        (clean → t.notices = (u.takeOutcome .clean).notices) ∧
        (¬failing → ¬clean → t.notices = u.notices)) ∧
    (failing → t.grade = (s.takeOutcome .failing).grade ∧
      t.discharge.bank.failing = satInc s.discharge.bank.failing) ∧
    (clean → t.grade = (s.takeOutcome .clean).grade ∧ t.discharge = s.discharge) ∧
    (¬failing → ¬clean → t.grade = (s.takeOutcome .neither).grade ∧ t.discharge = s.discharge) ∧
    t.settings = s.settings ∧ t.mode = s.mode ∧ t.zones = s.zones ∧ t.link = s.link ∧ t.now = s.now

/-- The settle timer runs out. Where the four start conditions hold a stroke begins: the valve asserted, the
stroke numbered and counted, its context built from the records at `p_seal` without a seal part, their seal
parts PRESSING; otherwise the press returns to OPEN and nothing else changes (05 R86 to R88; 04 R78). -/
def Obligations.SettleExpiryJudged : Prop :=
  ∀ (s : State) (d : Nat), s.phase = .running → s.press.state = .settling → s.press.settleDue = some d →
    (∀ q l c q' l' c', slotAt s.track.rows q l = .record c → slotAt s.track.rows q' l' = .record c' →
      c.serial = c'.serial → q = q' ∧ l = l') →
    let m := max s.now d
    let c := s.settings.line
    let starts : Prop := s.mode.mode = .run ∧ (c.warnInUse = true → s.pins.warn = false) ∧
      (s.rhythm.state = .locked → ∃ e, s.rhythm.deadline = some e ∧ m < e) ∧
      ∃ l x, slotAt s.track.rows c.pSeal l = .record x ∧ x.sealPart = none
    let entry (l : Lane) : Option StrokeLane :=
      match slotAt s.track.rows c.pSeal l with
      | .record x =>
        let r := s.settings.recipe x.recipe
        let z := c.zoneMap.lane l
        if x.sealPart = none then
          some ⟨l, x.serial, z, r.tAct, r.pRef, r.doseMin, r.doseTarget, r.doseMax, r.dwellMin, r.dwellMax,
            decide ((s.zones.zone.zone z).health = .faulted), 0⟩
        else none
      | .unknown => none
      | .none => none
    (¬starts →
      exec .settleExpiry s =
        .next { s with now := m, press := { s.press with state := .opened, settleDue := none } }) ∧
    (starts →
      ∃ t x, exec .settleExpiry s = .next t ∧ t.now = m ∧ t.press.stroke = some x ∧
        t.press.pressClose = true ∧ t.press.settleDue = none ∧ t.press.strokes = s.press.strokes + 1#32 ∧
        (s.pins.switches = ⟨false, true⟩ →
          t.press.state = .dwell ∧ t.press.closeDue = none ∧ t.press.closeTimeouts = 0) ∧
        (s.pins.switches ≠ ⟨false, true⟩ →
          t.press.state = .closing ∧ t.press.closeDue = some (m + c.closeTimeout) ∧
          t.press.closeTimeouts = s.press.closeTimeouts) ∧
        x.number = s.press.strokes + 1#32 ∧ (x.startLocked = true ↔ s.rhythm.state = .locked) ∧ x.n = 0 ∧
        x.lanes = Lane.all.filterMap entry ∧
        (∀ k ∈ x.lanes, x.nLimit ≤ k.dwellMax) ∧
        (s.rhythm.state ≠ .locked → c.warnInUse = false → x.nLimit ≤ c.unlockedDwellCap) ∧
        ((∃ k ∈ x.lanes, x.nLimit = k.dwellMax) ∨
          (s.rhythm.state ≠ .locked ∧ c.warnInUse = false ∧ x.nLimit = c.unlockedDwellCap)) ∧
        (∀ l y, slotAt s.track.rows c.pSeal l = .record y → y.sealPart = none →
          slotAt t.track.rows c.pSeal l = .record { y with sealPart := some .pressing }) ∧
        (∀ q l, (q = c.pSeal → entry l = none) → slotAt t.track.rows q l = slotAt s.track.rows q l) ∧
        t.discharge = { s.discharge with
          bank := { s.discharge.bank with strokes := satInc s.discharge.bank.strokes } } ∧
        t.notices = s.notices ∧ t.mode = s.mode ∧ t.settings = s.settings ∧ t.rhythm = s.rhythm ∧
        t.grade = s.grade)

/-- A WARN edge sets the warning-seen flag when it rises, in use or not; with WARN in use it gives up a settle
and ends a stroke with cause WARNING, and touches the press in no other state (05 R85, R94; 06 R108). -/
def Obligations.WarnEdgeTaken : Prop :=
  ∀ (after : Nat) (level : Bool) (s : State),
    let u : State := { s with now := s.now + after, pins := { s.pins with warn := level } }
    let v : State := { u with rhythm := { s.rhythm with warnSeen := true } }
    (s.phase ≠ .running ∨ level = false → exec (.warnEdge after level) s = .next u) ∧
    (s.phase = .running → level = true →
      (s.settings.line.warnInUse = false ∨ s.press.state = .opened ∨ s.press.state = .releasing ∨
          s.press.state = .stuck →
        exec (.warnEdge after level) s = .next v) ∧
      (s.settings.line.warnInUse = true → s.press.state = .settling →
        exec (.warnEdge after level) s =
          .next { v with press := { s.press with state := .opened, settleDue := none } }) ∧
      (s.settings.line.warnInUse = true → s.press.state = .closing ∨ s.press.state = .dwell →
        exec (.warnEdge after level) s = .next (v.terminate .warning)))

/-- The switches come to show a confirmation: closed moves CLOSING to DWELL and clears the consecutive
close-timeout count, open moves RELEASING and STUCK to OPEN; anything else they show, and any other press
state, leaves the press as it was (05 R82, R90, R101). -/
def Obligations.ConfirmationsMovePress : Prop :=
  ∀ (after : Nat) (w : Switches) (s : State) (i : Instr),
    i = .closedConfirmation after w ∨ i = .openConfirmation after w →
    let u : State := { s with now := s.now + after, pins := { s.pins with switches := w } }
    let closes : Prop := s.phase = .running ∧ s.press.state = .closing ∧ w = ⟨false, true⟩
    let opens : Prop := s.phase = .running ∧ (s.press.state = .releasing ∨ s.press.state = .stuck) ∧ w = ⟨true, false⟩
    (closes →
      exec i s = .next { u with press := { s.press with state := .dwell, closeDue := none, closeTimeouts := 0 } }) ∧
    (opens → exec i s = .next { u with press := { s.press with state := .opened, openDue := none } }) ∧
    (¬closes → ¬opens → exec i s = .next u)

/-- The press timers. The close timer ends the stroke with CLOSE_TIMEOUT and raises the consecutive count, at 3
or more halting the line with PRESS_CLOSE; the open timer makes the press STUCK and halts it with PRESS_OPEN;
the deadline of a locked rhythm ends a stroke with PREDICTED, and does nothing without one (05 R92, R94, R101,
R103; 06 R116). -/
def Obligations.PressTimersRunOut : Prop :=
  (∀ (s : State) (d : Nat), s.phase = .running → s.press.state = .closing → s.press.closeDue = some d →
    let count := min (s.press.closeTimeouts + 1) 255
    ∃ t, exec .closeTimeout s = .next t ∧ t.now = max s.now d ∧ t.press.closeTimeouts = count ∧
      t.press.pressClose = false ∧ t.press.stroke = none ∧ t.press.closeDue = none ∧
      t.press.state.inStroke = false ∧
      t.track = (({ s with now := max s.now d } : State).terminate .closeTimeout).track ∧
      t.grade = (({ s with now := max s.now d } : State).terminate .closeTimeout).grade ∧
      (count < 3 ∨ s.mode.mode ≠ .run → t.mode = s.mode) ∧
      (3 ≤ count → s.mode.mode = .run →
        t.mode = ⟨.halted, .pressClose, none, false⟩ ∧ t.notices.hasFlag .mode = true)) ∧
  (∀ (s : State) (d : Nat), s.phase = .running → s.press.state = .releasing → s.press.openDue = some d →
    let u : State := { s with now := max s.now d, press := { s.press with state := .stuck, openDue := none } }
    (s.mode.mode ≠ .run → exec .openTimeout s = .next u) ∧
    (s.mode.mode = .run →
      exec .openTimeout s =
        .next { u with
          mode := ⟨.halted, .pressOpen, none, false⟩
          notices := s.notices.push s.settings.noticeMask
            (.mode .run .halted .halted (.halt .pressOpen) s.track.advances) })) ∧
  (∀ (s : State) (d : Nat), s.phase = .running → s.rhythm.state = .locked → s.rhythm.deadline = some d →
    let u : State := { s with now := max s.now d }
    (s.press.state = .closing ∨ s.press.state = .dwell →
      exec .predictedDeadline s = .next (u.terminate .predicted)) ∧
    (s.press.state ≠ .closing → s.press.state ≠ .dwell → exec .predictedDeadline s = .next u))

/-! ## Sampling -/

/-- A sampling tick, in every mode: each zone is moved by its own code, the pressure code is stored, the next
tick is 4 ms on, each change of health raises its ZONE event, zone-ascending, and where no stroke is in flight
nothing else changes; a stroke takes the sample after that (04 R64 to R68, R70). -/
def Obligations.ZonesSampled : Prop :=
  ∀ (codes : Quad (BitVec 12)) (px : BitVec 10) (s : State), s.phase = .running →
    let u := ({ s with now := max s.now s.zones.nextTick } : State).sampleZones codes px
    let events : List Notice := Zone.all.filterMap fun z =>
      let a := s.zones.zone.zone z
      let b := u.zones.zone.zone z
      if b.health = a.health then none
      else some (.zone z b.health
        (if b.health = .healthy then .recovered
         else if (codes.zone z).toNat < 40 then .shorted else .openCircuit) (codes.zone z) b.held)
    { u with now := s.now, zones := s.zones, notices := s.notices } = s ∧
    u.now = max s.now s.zones.nextTick ∧ u.zones.pressure = px ∧ u.zones.nextTick = s.zones.nextTick + 4 ∧
    (∀ z : Zone,
      let a := s.zones.zone.zone z
      let b := u.zones.zone.zone z
      let valid : Prop := 40 ≤ (codes.zone z).toNat ∧ (codes.zone z).toNat ≤ 3999
      (¬valid → b = ⟨.faulted, a.held, 0⟩) ∧
      (valid → a.health = .healthy → b = ⟨.healthy, codes.zone z, 0⟩) ∧
      (valid → a.health = .faulted → a.recovery < 7 → b = ⟨.faulted, codes.zone z, a.recovery + 1⟩) ∧
      (valid → a.health = .faulted → 7 ≤ a.recovery → b = ⟨.healthy, codes.zone z, 0⟩) ∧
      (b.health ≠ a.health → u.notices.hasFlag .zone = true)) ∧
    u.notices = events.foldl (fun q n => q.push s.settings.noticeMask n) s.notices ∧
    (s.press.state.inStroke = false → exec (.samplingTick codes px) s = .next u) ∧
    ∃ t, exec (.samplingTick codes px) s = .next t ∧ t.now = u.now ∧ t.zones = u.zones

/-- A tick in a stroke: a sighted lane whose zone is FAULTED after the tick turns blind, in CLOSING nothing
more; in DWELL each lane still sighted gains its contribution, held at 65535, n rises by one, and the stroke
ends COMPLETE or else at its limit DWELL_LIMIT (04 R73 to R79; 05 R91, R93). -/
def Obligations.StrokeSampled : Prop :=
  ∀ (codes : Quad (BitVec 12)) (px : BitVec 10) (s : State) (x : StrokeContext), s.phase = .running →
    s.press.stroke = some x →
    let u := ({ s with now := max s.now s.zones.nextTick } : State).sampleZones codes px
    let blinded (k : StrokeLane) : Bool := k.blind || decide ((u.zones.zone.zone k.zone).health = .faulted)
    let gain (k : StrokeLane) : Nat :=
      min ((codes.zone k.zone).toNat - k.tAct) 400 * min (px.toNat * 256 / k.pRef) 512 / 256
    let y : StrokeContext := { x with
      n := x.n + 1
      lanes := x.lanes.map fun k =>
        { k with blind := blinded k, dose := if blinded k then k.dose else min (k.dose + gain k) 65535 } }
    let complete : Prop := ∀ k ∈ y.lanes, (k.blind = true ∨ k.doseTarget ≤ k.dose) ∧ k.dwellMin ≤ y.n
    let v : State := { u with press := { s.press with stroke := some y } }
    (s.press.state = .closing →
      exec (.samplingTick codes px) s =
        .next { u with press := { s.press with
          stroke := some { x with lanes := x.lanes.map fun k => { k with blind := blinded k } } } }) ∧
    (s.press.state = .dwell →
      (complete → exec (.samplingTick codes px) s = .next (v.terminate .complete)) ∧
      (¬complete → y.n = x.nLimit → exec (.samplingTick codes px) s = .next (v.terminate .dwellLimit)) ∧
      (¬complete → y.n ≠ x.nLimit → exec (.samplingTick codes px) s = .next v))

/-- The contribution of one sample: e times f over 256, truncated, between 0 and 800, both ends reached, with
the manual's worked values (04 R76). -/
def Obligations.ContributionBounds : Prop :=
  (∀ e f, contribution e f * 256 ≤ e * f ∧ e * f < (contribution e f + 1) * 256) ∧
  (∀ (t : BitVec 12) (p : BitVec 10) (a r : Nat),
    contribution (excess t.toNat a) (pressureFactor p.toNat r) ≤ 800) ∧
  contribution 400 512 = 800 ∧ (∀ f, contribution 0 f = 0) ∧ (∀ e, contribution e 0 = 0) ∧
  contribution 160 262 = 163 ∧ contribution 80 262 = 81 ∧ contribution 400 256 = 400

/-! ## Discharge -/

/-- The outcome of a discharged slot: the overflow indicator, then the lowest-numbered active rule all of whose
fields match, then the marks; the policy for UNKNOWN, and none for NONE (08 R138, R139). -/
def Obligations.DischargeOutcome : Prop :=
  ∀ (st : Settings) (l : Lane) (c : CardRecord),
    let hits (n : Fin 8) : Prop :=
      let r := st.rules[n.val]
      r.active = true ∧ (∀ k, r.recipe = some k → k = c.recipe) ∧ (∀ k, r.lane = some k → k = l) ∧
      match r.mark with
      | .any => True
      | .none => c.marks = []
      | .holds k => k ∈ c.marks
    (c.overflow = true → slotFate st l (.record c) = some .reject) ∧
    (c.overflow = false →
      (∀ n, hits n → (∀ m < n, ¬hits m) → slotFate st l (.record c) = some st.rules[n.val].fate) ∧
      ((∀ n, ¬hits n) →
        slotFate st l (.record c) = some (if c.marks = [] then .pass else .reject))) ∧
    (st.line.unknownPolicy = .reject → slotFate st l .unknown = some .reject) ∧
    (st.line.unknownPolicy = .pass → slotFate st l .unknown = some .pass) ∧
    slotFate st l .none = none

/-- The four slots handed over at an advance: each record counted once as discharged and once by its outcome,
each of its marks in its kind's count, each UNKNOWN by the policy, NONE nowhere; a REJECT acts on its lane's
flap, any SAMPLE once on the sample output, and nothing else changes (08 R137, R143, R144, R146). -/
def Obligations.DischargeRowTaken : Prop :=
  ∀ (s : State) (r : Row),
    let t := s.dischargeRow r
    let c := s.settings.line
    let fate (l : Lane) : Option Fate := slotFate s.settings l (r.lane l)
    let held (k : MarkKind) (x : Slot) : Nat :=
      match x with
      | .record y => y.marks.count k
      | .unknown => 0
      | .none => 0
    { t with discharge := s.discharge } = s ∧ t.discharge.snapshot = s.discharge.snapshot ∧
    (∀ l : Lane,
      let k := s.discharge.bank.lanes.lane l
      t.discharge.bank.lanes.lane l =
        match r.lane l, fate l with
        | .record _, some .pass => { k with discharged := satInc k.discharged, passed := satInc k.passed }
        | .record _, some .reject => { k with discharged := satInc k.discharged, rejected := satInc k.rejected }
        | .record _, some .sample => { k with discharged := satInc k.discharged, sampled := satInc k.sampled }
        | .unknown, some .reject => { k with unknownRejected := satInc k.unknownRejected }
        | .unknown, some .pass => { k with unknownPassed := satInc k.unknownPassed }
        | _, _ => k) ∧
    (∀ k : MarkKind,
      t.discharge.bank.marks[k.index.val].toNat =
        min (s.discharge.bank.marks[k.index.val].toNat + (Lane.all.map fun l => held k (r.lane l)).sum)
          4294967295) ∧
    t.discharge.bank.strokes = s.discharge.bank.strokes ∧ t.discharge.bank.failing = s.discharge.bank.failing ∧
    t.discharge.bank.downgrades = s.discharge.bank.downgrades ∧
    (∀ l : Lane,
      (fate l = some .reject →
        t.discharge.flaps.lane l = (s.discharge.flaps.lane l).give s.now c.gateDelay c.gatePulse) ∧
      (fate l ≠ some .reject → t.discharge.flaps.lane l = s.discharge.flaps.lane l)) ∧
    ((∃ l, fate l = some .sample) →
      t.discharge.sample = s.discharge.sample.give s.now c.sampleDelay c.samplePulse) ∧
    ((∀ l, fate l ≠ some .sample) → t.discharge.sample = s.discharge.sample)

/-- A flap, or the sample output: an action waits its delay, a waiting one fires early when another comes, a
delay of 0 fires at once; the due time starts or retriggers the pulse for the working pulse length and the end
time drops the output (08 R144 to R146). -/
def Obligations.FlapActions : Prop :=
  (∀ (f : Flap) (now delay pulse : Nat),
    (0 < delay → f.pending = none → f.give now delay pulse = ⟨some (now + delay), f.pulse⟩) ∧
    (0 < delay → f.pending ≠ none → f.give now delay pulse = ⟨some (now + delay), some (now + pulse)⟩) ∧
    (delay = 0 → f.give now delay pulse = ⟨none, some (now + pulse)⟩)) ∧
  (∀ (o : GateOutput) (s : State) (d : Nat), s.phase = .running →
    let m := max s.now d
    let f : Flap := match o with
      | .flap l => s.discharge.flaps.lane l
      | .sample => s.discharge.sample
    let pulse := match o with
      | .flap _ => s.settings.line.gatePulse
      | .sample => s.settings.line.samplePulse
    let put (g : Flap) : State :=
      { s with
        now := m
        discharge := match o with
          | .flap l => { s.discharge with flaps := s.discharge.flaps.setLane l g }
          | .sample => { s.discharge with sample := g } }
    (f.pending = some d → exec (.flapDue o) s = .next (put ⟨none, some (m + pulse)⟩)) ∧
    (f.pulse = some d → exec (.flapPulseEnd o) s = .next (put ⟨f.pending, none⟩)))

/-! ## What every step keeps -/

/-- The reset state satisfies every invariant below. -/
def Obligations.ResetMeetsInvariants : Prop :=
  State.reset.settingsLegal ∧ State.reset.modeLegal ∧ State.reset.pressLegal ∧ State.reset.strokeLegal ∧
  State.reset.resetHeld ∧ State.reset.zonesLegal ∧ State.reset.rhythmLegal ∧ State.reset.gradeLegal ∧
  State.reset.trackLegal ∧ State.reset.serialsLegal ∧ State.reset.sealLegal ∧ State.reset.countsBalanced ∧
  State.reset.queueLegal

/-- Every step keeps the working settings and a good stored copy within their ranges and relations
(01 R1, R2, R10; 10 R181). -/
def Obligations.SettingsStayLegal : Prop :=
  ∀ s t : State, s.settingsLegal → step s = .next t → t.settingsLegal

/-- Every step keeps INTERLOCK with RUN, the halt cause with HALTED and the prime timer with STARTING, and from
a reset's start to its end keeps the outputs dropped, GRADE[1:0] at 00, the queue and the Link Port empty
(09 R153 to R155, R162, R163; 07 R120; 08 R147). -/
def Obligations.ModeStaysLegal : Prop :=
  ∀ s t : State, step s = .next t → (s.modeLegal → t.modeLegal) ∧ (s.resetHeld → t.resetHeld)

/-- Every step keeps the valve and the stroke context with CLOSING and DWELL, those with RUN, and each press
timer with its state (05 section 5.1, R83, R87), and the press OPEN from a reset's start to its end, which is the
model's own choice (assumption 11). -/
def Obligations.PressStaysLegal : Prop :=
  ∀ s t : State, s.pressLegal → step s = .next t → t.pressLegal

/-- Every step keeps a stroke's sample count short of its limit, the limit at most 250 and at most each lane's
`dwell_max`, one to four lanes, and each dose in 16 bits (04 R77; 05 R87, R88, R93). -/
def Obligations.StrokeStaysLegal : Prop :=
  ∀ s t : State, s.settingsLegal → s.pressLegal → s.strokeLegal → step s = .next t → t.strokeLegal

/-- Every step keeps the deadline with LOCKED, the restore-idle timer with STOPPED, the good count with
ACQUIRING and the slip count with SLIPPING (06 R110 to R113, R116, R118). -/
def Obligations.RhythmStaysLegal : Prop :=
  ∀ s t : State, s.rhythmLegal → step s = .next t → t.rhythmLegal

/-- Every step keeps the common set the one its sources give, the advised grade the fastest member not faster
than the floor and on the lines, the strike, clean-run and recovery counts below their limits, and full speed in
IDLE and STARTING (07 R120, R122, R123, R126, R129). -/
def Obligations.GradeStaysLegal : Prop :=
  ∀ s t : State, s.settingsLegal → s.pressLegal → s.gradeLegal → step s = .next t → t.gradeLegal

/-- Every step keeps the track at `p_gate + 1` positions with a window within it, every record's marks at most
six with no two of a kind, and no record in IDLE and STARTING; and a PRESSING seal part only in records that the
stroke in flight names, at `p_seal` or the position after it (02 R19, R23, R27, R28, R42; 05 R97). -/
def Obligations.TrackStaysLegal : Prop :=
  ∀ s t : State, s.trackLegal → step s = .next t →
    t.trackLegal ∧ (s.settingsLegal → s.pressLegal → s.serialsLegal → s.sealLegal → t.sealLegal)

/-- Every step keeps the serials of the records in the track in order of entry, so that no two records ever
hold the same serial (02 R25). -/
def Obligations.SerialsStayUnique : Prop :=
  ∀ s t : State, s.settingsLegal → s.trackLegal → s.serialsLegal → step s = .next t → t.serialsLegal

/-- Every step keeps, in each lane, entered equal to discharged + purged + the live records, and discharged
equal to passed + rejected + sampled, until a count saturates (08 R148). -/
def Obligations.CountsStayBalanced : Prop :=
  ∀ s t : State, s.modeLegal → s.trackLegal → s.countsBalanced → step s = .next t → t.countsBalanced

/-- Every step keeps the Notice Queue at no more than 32 notices with numbers that run on by one (10 R173). -/
def Obligations.QueueStaysLegal : Prop :=
  ∀ s t : State, s.queueLegal → step s = .next t → t.queueLegal

/-- Every step keeps each zone's recovery count at most 7 and at 0 while it is HEALTHY, and its held code 0 or a
valid code (04 R66, R67, R71). -/
def Obligations.ZonesStayLegal : Prop :=
  ∀ s t : State, s.zonesLegal → step s = .next t → t.zonesLegal
end

