-- ==== Sys2Proof/Laws/State.lean ====
section
/-! SUPPORT. What each replaced field of the state reads as: one lemma per field per update. -/

namespace Sys2Proof.Machine.State

variable (s : State)

@[simp] theorem setNow_now (x : Nat) : (s.setNow x).now = x := rfl
@[simp] theorem setNow_freeDraws (x : Nat) : (s.setNow x).freeDraws = s.freeDraws := rfl
@[simp] theorem setNow_phase (x : Nat) : (s.setNow x).phase = s.phase := rfl
@[simp] theorem setNow_pins (x : Nat) : (s.setNow x).pins = s.pins := rfl
@[simp] theorem setNow_settings (x : Nat) : (s.setNow x).settings = s.settings := rfl
@[simp] theorem setNow_store (x : Nat) : (s.setNow x).store = s.store := rfl
@[simp] theorem setNow_mode (x : Nat) : (s.setNow x).mode = s.mode := rfl
@[simp] theorem setNow_track (x : Nat) : (s.setNow x).track = s.track := rfl
@[simp] theorem setNow_zones (x : Nat) : (s.setNow x).zones = s.zones := rfl
@[simp] theorem setNow_press (x : Nat) : (s.setNow x).press = s.press := rfl
@[simp] theorem setNow_rhythm (x : Nat) : (s.setNow x).rhythm = s.rhythm := rfl
@[simp] theorem setNow_grade (x : Nat) : (s.setNow x).grade = s.grade := rfl
@[simp] theorem setNow_discharge (x : Nat) : (s.setNow x).discharge = s.discharge := rfl
@[simp] theorem setNow_notices (x : Nat) : (s.setNow x).notices = s.notices := rfl
@[simp] theorem setNow_link (x : Nat) : (s.setNow x).link = s.link := rfl
@[simp] theorem setNow_pending (x : Nat) : (s.setNow x).pending = s.pending := rfl

@[simp] theorem setFreeDraws_now (x : Nat) : (s.setFreeDraws x).now = s.now := rfl
@[simp] theorem setFreeDraws_freeDraws (x : Nat) : (s.setFreeDraws x).freeDraws = x := rfl
@[simp] theorem setFreeDraws_phase (x : Nat) : (s.setFreeDraws x).phase = s.phase := rfl
@[simp] theorem setFreeDraws_pins (x : Nat) : (s.setFreeDraws x).pins = s.pins := rfl
@[simp] theorem setFreeDraws_settings (x : Nat) : (s.setFreeDraws x).settings = s.settings := rfl
@[simp] theorem setFreeDraws_store (x : Nat) : (s.setFreeDraws x).store = s.store := rfl
@[simp] theorem setFreeDraws_mode (x : Nat) : (s.setFreeDraws x).mode = s.mode := rfl
@[simp] theorem setFreeDraws_track (x : Nat) : (s.setFreeDraws x).track = s.track := rfl
@[simp] theorem setFreeDraws_zones (x : Nat) : (s.setFreeDraws x).zones = s.zones := rfl
@[simp] theorem setFreeDraws_press (x : Nat) : (s.setFreeDraws x).press = s.press := rfl
@[simp] theorem setFreeDraws_rhythm (x : Nat) : (s.setFreeDraws x).rhythm = s.rhythm := rfl
@[simp] theorem setFreeDraws_grade (x : Nat) : (s.setFreeDraws x).grade = s.grade := rfl
@[simp] theorem setFreeDraws_discharge (x : Nat) : (s.setFreeDraws x).discharge = s.discharge := rfl
@[simp] theorem setFreeDraws_notices (x : Nat) : (s.setFreeDraws x).notices = s.notices := rfl
@[simp] theorem setFreeDraws_link (x : Nat) : (s.setFreeDraws x).link = s.link := rfl
@[simp] theorem setFreeDraws_pending (x : Nat) : (s.setFreeDraws x).pending = s.pending := rfl

@[simp] theorem setPhase_now (x : Phase) : (s.setPhase x).now = s.now := rfl
@[simp] theorem setPhase_freeDraws (x : Phase) : (s.setPhase x).freeDraws = s.freeDraws := rfl
@[simp] theorem setPhase_phase (x : Phase) : (s.setPhase x).phase = x := rfl
@[simp] theorem setPhase_pins (x : Phase) : (s.setPhase x).pins = s.pins := rfl
@[simp] theorem setPhase_settings (x : Phase) : (s.setPhase x).settings = s.settings := rfl
@[simp] theorem setPhase_store (x : Phase) : (s.setPhase x).store = s.store := rfl
@[simp] theorem setPhase_mode (x : Phase) : (s.setPhase x).mode = s.mode := rfl
@[simp] theorem setPhase_track (x : Phase) : (s.setPhase x).track = s.track := rfl
@[simp] theorem setPhase_zones (x : Phase) : (s.setPhase x).zones = s.zones := rfl
@[simp] theorem setPhase_press (x : Phase) : (s.setPhase x).press = s.press := rfl
@[simp] theorem setPhase_rhythm (x : Phase) : (s.setPhase x).rhythm = s.rhythm := rfl
@[simp] theorem setPhase_grade (x : Phase) : (s.setPhase x).grade = s.grade := rfl
@[simp] theorem setPhase_discharge (x : Phase) : (s.setPhase x).discharge = s.discharge := rfl
@[simp] theorem setPhase_notices (x : Phase) : (s.setPhase x).notices = s.notices := rfl
@[simp] theorem setPhase_link (x : Phase) : (s.setPhase x).link = s.link := rfl
@[simp] theorem setPhase_pending (x : Phase) : (s.setPhase x).pending = s.pending := rfl

@[simp] theorem setPins_now (x : Pins) : (s.setPins x).now = s.now := rfl
@[simp] theorem setPins_freeDraws (x : Pins) : (s.setPins x).freeDraws = s.freeDraws := rfl
@[simp] theorem setPins_phase (x : Pins) : (s.setPins x).phase = s.phase := rfl
@[simp] theorem setPins_pins (x : Pins) : (s.setPins x).pins = x := rfl
@[simp] theorem setPins_settings (x : Pins) : (s.setPins x).settings = s.settings := rfl
@[simp] theorem setPins_store (x : Pins) : (s.setPins x).store = s.store := rfl
@[simp] theorem setPins_mode (x : Pins) : (s.setPins x).mode = s.mode := rfl
@[simp] theorem setPins_track (x : Pins) : (s.setPins x).track = s.track := rfl
@[simp] theorem setPins_zones (x : Pins) : (s.setPins x).zones = s.zones := rfl
@[simp] theorem setPins_press (x : Pins) : (s.setPins x).press = s.press := rfl
@[simp] theorem setPins_rhythm (x : Pins) : (s.setPins x).rhythm = s.rhythm := rfl
@[simp] theorem setPins_grade (x : Pins) : (s.setPins x).grade = s.grade := rfl
@[simp] theorem setPins_discharge (x : Pins) : (s.setPins x).discharge = s.discharge := rfl
@[simp] theorem setPins_notices (x : Pins) : (s.setPins x).notices = s.notices := rfl
@[simp] theorem setPins_link (x : Pins) : (s.setPins x).link = s.link := rfl
@[simp] theorem setPins_pending (x : Pins) : (s.setPins x).pending = s.pending := rfl

@[simp] theorem setSettings_now (x : Settings) : (s.setSettings x).now = s.now := rfl
@[simp] theorem setSettings_freeDraws (x : Settings) : (s.setSettings x).freeDraws = s.freeDraws := rfl
@[simp] theorem setSettings_phase (x : Settings) : (s.setSettings x).phase = s.phase := rfl
@[simp] theorem setSettings_pins (x : Settings) : (s.setSettings x).pins = s.pins := rfl
@[simp] theorem setSettings_settings (x : Settings) : (s.setSettings x).settings = x := rfl
@[simp] theorem setSettings_store (x : Settings) : (s.setSettings x).store = s.store := rfl
@[simp] theorem setSettings_mode (x : Settings) : (s.setSettings x).mode = s.mode := rfl
@[simp] theorem setSettings_track (x : Settings) : (s.setSettings x).track = s.track := rfl
@[simp] theorem setSettings_zones (x : Settings) : (s.setSettings x).zones = s.zones := rfl
@[simp] theorem setSettings_press (x : Settings) : (s.setSettings x).press = s.press := rfl
@[simp] theorem setSettings_rhythm (x : Settings) : (s.setSettings x).rhythm = s.rhythm := rfl
@[simp] theorem setSettings_grade (x : Settings) : (s.setSettings x).grade = s.grade := rfl
@[simp] theorem setSettings_discharge (x : Settings) : (s.setSettings x).discharge = s.discharge := rfl
@[simp] theorem setSettings_notices (x : Settings) : (s.setSettings x).notices = s.notices := rfl
@[simp] theorem setSettings_link (x : Settings) : (s.setSettings x).link = s.link := rfl
@[simp] theorem setSettings_pending (x : Settings) : (s.setSettings x).pending = s.pending := rfl

@[simp] theorem setStore_now (x : StoreUnit) : (s.setStore x).now = s.now := rfl
@[simp] theorem setStore_freeDraws (x : StoreUnit) : (s.setStore x).freeDraws = s.freeDraws := rfl
@[simp] theorem setStore_phase (x : StoreUnit) : (s.setStore x).phase = s.phase := rfl
@[simp] theorem setStore_pins (x : StoreUnit) : (s.setStore x).pins = s.pins := rfl
@[simp] theorem setStore_settings (x : StoreUnit) : (s.setStore x).settings = s.settings := rfl
@[simp] theorem setStore_store (x : StoreUnit) : (s.setStore x).store = x := rfl
@[simp] theorem setStore_mode (x : StoreUnit) : (s.setStore x).mode = s.mode := rfl
@[simp] theorem setStore_track (x : StoreUnit) : (s.setStore x).track = s.track := rfl
@[simp] theorem setStore_zones (x : StoreUnit) : (s.setStore x).zones = s.zones := rfl
@[simp] theorem setStore_press (x : StoreUnit) : (s.setStore x).press = s.press := rfl
@[simp] theorem setStore_rhythm (x : StoreUnit) : (s.setStore x).rhythm = s.rhythm := rfl
@[simp] theorem setStore_grade (x : StoreUnit) : (s.setStore x).grade = s.grade := rfl
@[simp] theorem setStore_discharge (x : StoreUnit) : (s.setStore x).discharge = s.discharge := rfl
@[simp] theorem setStore_notices (x : StoreUnit) : (s.setStore x).notices = s.notices := rfl
@[simp] theorem setStore_link (x : StoreUnit) : (s.setStore x).link = s.link := rfl
@[simp] theorem setStore_pending (x : StoreUnit) : (s.setStore x).pending = s.pending := rfl

@[simp] theorem setMode_now (x : ModeUnit) : (s.setMode x).now = s.now := rfl
@[simp] theorem setMode_freeDraws (x : ModeUnit) : (s.setMode x).freeDraws = s.freeDraws := rfl
@[simp] theorem setMode_phase (x : ModeUnit) : (s.setMode x).phase = s.phase := rfl
@[simp] theorem setMode_pins (x : ModeUnit) : (s.setMode x).pins = s.pins := rfl
@[simp] theorem setMode_settings (x : ModeUnit) : (s.setMode x).settings = s.settings := rfl
@[simp] theorem setMode_store (x : ModeUnit) : (s.setMode x).store = s.store := rfl
@[simp] theorem setMode_mode (x : ModeUnit) : (s.setMode x).mode = x := rfl
@[simp] theorem setMode_track (x : ModeUnit) : (s.setMode x).track = s.track := rfl
@[simp] theorem setMode_zones (x : ModeUnit) : (s.setMode x).zones = s.zones := rfl
@[simp] theorem setMode_press (x : ModeUnit) : (s.setMode x).press = s.press := rfl
@[simp] theorem setMode_rhythm (x : ModeUnit) : (s.setMode x).rhythm = s.rhythm := rfl
@[simp] theorem setMode_grade (x : ModeUnit) : (s.setMode x).grade = s.grade := rfl
@[simp] theorem setMode_discharge (x : ModeUnit) : (s.setMode x).discharge = s.discharge := rfl
@[simp] theorem setMode_notices (x : ModeUnit) : (s.setMode x).notices = s.notices := rfl
@[simp] theorem setMode_link (x : ModeUnit) : (s.setMode x).link = s.link := rfl
@[simp] theorem setMode_pending (x : ModeUnit) : (s.setMode x).pending = s.pending := rfl

@[simp] theorem setTrack_now (x : TrackState) : (s.setTrack x).now = s.now := rfl
@[simp] theorem setTrack_freeDraws (x : TrackState) : (s.setTrack x).freeDraws = s.freeDraws := rfl
@[simp] theorem setTrack_phase (x : TrackState) : (s.setTrack x).phase = s.phase := rfl
@[simp] theorem setTrack_pins (x : TrackState) : (s.setTrack x).pins = s.pins := rfl
@[simp] theorem setTrack_settings (x : TrackState) : (s.setTrack x).settings = s.settings := rfl
@[simp] theorem setTrack_store (x : TrackState) : (s.setTrack x).store = s.store := rfl
@[simp] theorem setTrack_mode (x : TrackState) : (s.setTrack x).mode = s.mode := rfl
@[simp] theorem setTrack_track (x : TrackState) : (s.setTrack x).track = x := rfl
@[simp] theorem setTrack_zones (x : TrackState) : (s.setTrack x).zones = s.zones := rfl
@[simp] theorem setTrack_press (x : TrackState) : (s.setTrack x).press = s.press := rfl
@[simp] theorem setTrack_rhythm (x : TrackState) : (s.setTrack x).rhythm = s.rhythm := rfl
@[simp] theorem setTrack_grade (x : TrackState) : (s.setTrack x).grade = s.grade := rfl
@[simp] theorem setTrack_discharge (x : TrackState) : (s.setTrack x).discharge = s.discharge := rfl
@[simp] theorem setTrack_notices (x : TrackState) : (s.setTrack x).notices = s.notices := rfl
@[simp] theorem setTrack_link (x : TrackState) : (s.setTrack x).link = s.link := rfl
@[simp] theorem setTrack_pending (x : TrackState) : (s.setTrack x).pending = s.pending := rfl

@[simp] theorem setZones_now (x : ZoneState) : (s.setZones x).now = s.now := rfl
@[simp] theorem setZones_freeDraws (x : ZoneState) : (s.setZones x).freeDraws = s.freeDraws := rfl
@[simp] theorem setZones_phase (x : ZoneState) : (s.setZones x).phase = s.phase := rfl
@[simp] theorem setZones_pins (x : ZoneState) : (s.setZones x).pins = s.pins := rfl
@[simp] theorem setZones_settings (x : ZoneState) : (s.setZones x).settings = s.settings := rfl
@[simp] theorem setZones_store (x : ZoneState) : (s.setZones x).store = s.store := rfl
@[simp] theorem setZones_mode (x : ZoneState) : (s.setZones x).mode = s.mode := rfl
@[simp] theorem setZones_track (x : ZoneState) : (s.setZones x).track = s.track := rfl
@[simp] theorem setZones_zones (x : ZoneState) : (s.setZones x).zones = x := rfl
@[simp] theorem setZones_press (x : ZoneState) : (s.setZones x).press = s.press := rfl
@[simp] theorem setZones_rhythm (x : ZoneState) : (s.setZones x).rhythm = s.rhythm := rfl
@[simp] theorem setZones_grade (x : ZoneState) : (s.setZones x).grade = s.grade := rfl
@[simp] theorem setZones_discharge (x : ZoneState) : (s.setZones x).discharge = s.discharge := rfl
@[simp] theorem setZones_notices (x : ZoneState) : (s.setZones x).notices = s.notices := rfl
@[simp] theorem setZones_link (x : ZoneState) : (s.setZones x).link = s.link := rfl
@[simp] theorem setZones_pending (x : ZoneState) : (s.setZones x).pending = s.pending := rfl

@[simp] theorem setPress_now (x : PressUnit) : (s.setPress x).now = s.now := rfl
@[simp] theorem setPress_freeDraws (x : PressUnit) : (s.setPress x).freeDraws = s.freeDraws := rfl
@[simp] theorem setPress_phase (x : PressUnit) : (s.setPress x).phase = s.phase := rfl
@[simp] theorem setPress_pins (x : PressUnit) : (s.setPress x).pins = s.pins := rfl
@[simp] theorem setPress_settings (x : PressUnit) : (s.setPress x).settings = s.settings := rfl
@[simp] theorem setPress_store (x : PressUnit) : (s.setPress x).store = s.store := rfl
@[simp] theorem setPress_mode (x : PressUnit) : (s.setPress x).mode = s.mode := rfl
@[simp] theorem setPress_track (x : PressUnit) : (s.setPress x).track = s.track := rfl
@[simp] theorem setPress_zones (x : PressUnit) : (s.setPress x).zones = s.zones := rfl
@[simp] theorem setPress_press (x : PressUnit) : (s.setPress x).press = x := rfl
@[simp] theorem setPress_rhythm (x : PressUnit) : (s.setPress x).rhythm = s.rhythm := rfl
@[simp] theorem setPress_grade (x : PressUnit) : (s.setPress x).grade = s.grade := rfl
@[simp] theorem setPress_discharge (x : PressUnit) : (s.setPress x).discharge = s.discharge := rfl
@[simp] theorem setPress_notices (x : PressUnit) : (s.setPress x).notices = s.notices := rfl
@[simp] theorem setPress_link (x : PressUnit) : (s.setPress x).link = s.link := rfl
@[simp] theorem setPress_pending (x : PressUnit) : (s.setPress x).pending = s.pending := rfl

@[simp] theorem setRhythm_now (x : RhythmUnit) : (s.setRhythm x).now = s.now := rfl
@[simp] theorem setRhythm_freeDraws (x : RhythmUnit) : (s.setRhythm x).freeDraws = s.freeDraws := rfl
@[simp] theorem setRhythm_phase (x : RhythmUnit) : (s.setRhythm x).phase = s.phase := rfl
@[simp] theorem setRhythm_pins (x : RhythmUnit) : (s.setRhythm x).pins = s.pins := rfl
@[simp] theorem setRhythm_settings (x : RhythmUnit) : (s.setRhythm x).settings = s.settings := rfl
@[simp] theorem setRhythm_store (x : RhythmUnit) : (s.setRhythm x).store = s.store := rfl
@[simp] theorem setRhythm_mode (x : RhythmUnit) : (s.setRhythm x).mode = s.mode := rfl
@[simp] theorem setRhythm_track (x : RhythmUnit) : (s.setRhythm x).track = s.track := rfl
@[simp] theorem setRhythm_zones (x : RhythmUnit) : (s.setRhythm x).zones = s.zones := rfl
@[simp] theorem setRhythm_press (x : RhythmUnit) : (s.setRhythm x).press = s.press := rfl
@[simp] theorem setRhythm_rhythm (x : RhythmUnit) : (s.setRhythm x).rhythm = x := rfl
@[simp] theorem setRhythm_grade (x : RhythmUnit) : (s.setRhythm x).grade = s.grade := rfl
@[simp] theorem setRhythm_discharge (x : RhythmUnit) : (s.setRhythm x).discharge = s.discharge := rfl
@[simp] theorem setRhythm_notices (x : RhythmUnit) : (s.setRhythm x).notices = s.notices := rfl
@[simp] theorem setRhythm_link (x : RhythmUnit) : (s.setRhythm x).link = s.link := rfl
@[simp] theorem setRhythm_pending (x : RhythmUnit) : (s.setRhythm x).pending = s.pending := rfl

@[simp] theorem setGrade_now (x : GradeUnit) : (s.setGrade x).now = s.now := rfl
@[simp] theorem setGrade_freeDraws (x : GradeUnit) : (s.setGrade x).freeDraws = s.freeDraws := rfl
@[simp] theorem setGrade_phase (x : GradeUnit) : (s.setGrade x).phase = s.phase := rfl
@[simp] theorem setGrade_pins (x : GradeUnit) : (s.setGrade x).pins = s.pins := rfl
@[simp] theorem setGrade_settings (x : GradeUnit) : (s.setGrade x).settings = s.settings := rfl
@[simp] theorem setGrade_store (x : GradeUnit) : (s.setGrade x).store = s.store := rfl
@[simp] theorem setGrade_mode (x : GradeUnit) : (s.setGrade x).mode = s.mode := rfl
@[simp] theorem setGrade_track (x : GradeUnit) : (s.setGrade x).track = s.track := rfl
@[simp] theorem setGrade_zones (x : GradeUnit) : (s.setGrade x).zones = s.zones := rfl
@[simp] theorem setGrade_press (x : GradeUnit) : (s.setGrade x).press = s.press := rfl
@[simp] theorem setGrade_rhythm (x : GradeUnit) : (s.setGrade x).rhythm = s.rhythm := rfl
@[simp] theorem setGrade_grade (x : GradeUnit) : (s.setGrade x).grade = x := rfl
@[simp] theorem setGrade_discharge (x : GradeUnit) : (s.setGrade x).discharge = s.discharge := rfl
@[simp] theorem setGrade_notices (x : GradeUnit) : (s.setGrade x).notices = s.notices := rfl
@[simp] theorem setGrade_link (x : GradeUnit) : (s.setGrade x).link = s.link := rfl
@[simp] theorem setGrade_pending (x : GradeUnit) : (s.setGrade x).pending = s.pending := rfl

@[simp] theorem setDischarge_now (x : DischargeUnit) : (s.setDischarge x).now = s.now := rfl
@[simp] theorem setDischarge_freeDraws (x : DischargeUnit) : (s.setDischarge x).freeDraws = s.freeDraws := rfl
@[simp] theorem setDischarge_phase (x : DischargeUnit) : (s.setDischarge x).phase = s.phase := rfl
@[simp] theorem setDischarge_pins (x : DischargeUnit) : (s.setDischarge x).pins = s.pins := rfl
@[simp] theorem setDischarge_settings (x : DischargeUnit) : (s.setDischarge x).settings = s.settings := rfl
@[simp] theorem setDischarge_store (x : DischargeUnit) : (s.setDischarge x).store = s.store := rfl
@[simp] theorem setDischarge_mode (x : DischargeUnit) : (s.setDischarge x).mode = s.mode := rfl
@[simp] theorem setDischarge_track (x : DischargeUnit) : (s.setDischarge x).track = s.track := rfl
@[simp] theorem setDischarge_zones (x : DischargeUnit) : (s.setDischarge x).zones = s.zones := rfl
@[simp] theorem setDischarge_press (x : DischargeUnit) : (s.setDischarge x).press = s.press := rfl
@[simp] theorem setDischarge_rhythm (x : DischargeUnit) : (s.setDischarge x).rhythm = s.rhythm := rfl
@[simp] theorem setDischarge_grade (x : DischargeUnit) : (s.setDischarge x).grade = s.grade := rfl
@[simp] theorem setDischarge_discharge (x : DischargeUnit) : (s.setDischarge x).discharge = x := rfl
@[simp] theorem setDischarge_notices (x : DischargeUnit) : (s.setDischarge x).notices = s.notices := rfl
@[simp] theorem setDischarge_link (x : DischargeUnit) : (s.setDischarge x).link = s.link := rfl
@[simp] theorem setDischarge_pending (x : DischargeUnit) : (s.setDischarge x).pending = s.pending := rfl

@[simp] theorem setNotices_now (x : NoticeUnit) : (s.setNotices x).now = s.now := rfl
@[simp] theorem setNotices_freeDraws (x : NoticeUnit) : (s.setNotices x).freeDraws = s.freeDraws := rfl
@[simp] theorem setNotices_phase (x : NoticeUnit) : (s.setNotices x).phase = s.phase := rfl
@[simp] theorem setNotices_pins (x : NoticeUnit) : (s.setNotices x).pins = s.pins := rfl
@[simp] theorem setNotices_settings (x : NoticeUnit) : (s.setNotices x).settings = s.settings := rfl
@[simp] theorem setNotices_store (x : NoticeUnit) : (s.setNotices x).store = s.store := rfl
@[simp] theorem setNotices_mode (x : NoticeUnit) : (s.setNotices x).mode = s.mode := rfl
@[simp] theorem setNotices_track (x : NoticeUnit) : (s.setNotices x).track = s.track := rfl
@[simp] theorem setNotices_zones (x : NoticeUnit) : (s.setNotices x).zones = s.zones := rfl
@[simp] theorem setNotices_press (x : NoticeUnit) : (s.setNotices x).press = s.press := rfl
@[simp] theorem setNotices_rhythm (x : NoticeUnit) : (s.setNotices x).rhythm = s.rhythm := rfl
@[simp] theorem setNotices_grade (x : NoticeUnit) : (s.setNotices x).grade = s.grade := rfl
@[simp] theorem setNotices_discharge (x : NoticeUnit) : (s.setNotices x).discharge = s.discharge := rfl
@[simp] theorem setNotices_notices (x : NoticeUnit) : (s.setNotices x).notices = x := rfl
@[simp] theorem setNotices_link (x : NoticeUnit) : (s.setNotices x).link = s.link := rfl
@[simp] theorem setNotices_pending (x : NoticeUnit) : (s.setNotices x).pending = s.pending := rfl

@[simp] theorem setLink_now (x : LinkUnit) : (s.setLink x).now = s.now := rfl
@[simp] theorem setLink_freeDraws (x : LinkUnit) : (s.setLink x).freeDraws = s.freeDraws := rfl
@[simp] theorem setLink_phase (x : LinkUnit) : (s.setLink x).phase = s.phase := rfl
@[simp] theorem setLink_pins (x : LinkUnit) : (s.setLink x).pins = s.pins := rfl
@[simp] theorem setLink_settings (x : LinkUnit) : (s.setLink x).settings = s.settings := rfl
@[simp] theorem setLink_store (x : LinkUnit) : (s.setLink x).store = s.store := rfl
@[simp] theorem setLink_mode (x : LinkUnit) : (s.setLink x).mode = s.mode := rfl
@[simp] theorem setLink_track (x : LinkUnit) : (s.setLink x).track = s.track := rfl
@[simp] theorem setLink_zones (x : LinkUnit) : (s.setLink x).zones = s.zones := rfl
@[simp] theorem setLink_press (x : LinkUnit) : (s.setLink x).press = s.press := rfl
@[simp] theorem setLink_rhythm (x : LinkUnit) : (s.setLink x).rhythm = s.rhythm := rfl
@[simp] theorem setLink_grade (x : LinkUnit) : (s.setLink x).grade = s.grade := rfl
@[simp] theorem setLink_discharge (x : LinkUnit) : (s.setLink x).discharge = s.discharge := rfl
@[simp] theorem setLink_notices (x : LinkUnit) : (s.setLink x).notices = s.notices := rfl
@[simp] theorem setLink_link (x : LinkUnit) : (s.setLink x).link = x := rfl
@[simp] theorem setLink_pending (x : LinkUnit) : (s.setLink x).pending = s.pending := rfl

@[simp] theorem setPending_now (x : List Instr) : (s.setPending x).now = s.now := rfl
@[simp] theorem setPending_freeDraws (x : List Instr) : (s.setPending x).freeDraws = s.freeDraws := rfl
@[simp] theorem setPending_phase (x : List Instr) : (s.setPending x).phase = s.phase := rfl
@[simp] theorem setPending_pins (x : List Instr) : (s.setPending x).pins = s.pins := rfl
@[simp] theorem setPending_settings (x : List Instr) : (s.setPending x).settings = s.settings := rfl
@[simp] theorem setPending_store (x : List Instr) : (s.setPending x).store = s.store := rfl
@[simp] theorem setPending_mode (x : List Instr) : (s.setPending x).mode = s.mode := rfl
@[simp] theorem setPending_track (x : List Instr) : (s.setPending x).track = s.track := rfl
@[simp] theorem setPending_zones (x : List Instr) : (s.setPending x).zones = s.zones := rfl
@[simp] theorem setPending_press (x : List Instr) : (s.setPending x).press = s.press := rfl
@[simp] theorem setPending_rhythm (x : List Instr) : (s.setPending x).rhythm = s.rhythm := rfl
@[simp] theorem setPending_grade (x : List Instr) : (s.setPending x).grade = s.grade := rfl
@[simp] theorem setPending_discharge (x : List Instr) : (s.setPending x).discharge = s.discharge := rfl
@[simp] theorem setPending_notices (x : List Instr) : (s.setPending x).notices = s.notices := rfl
@[simp] theorem setPending_link (x : List Instr) : (s.setPending x).link = s.link := rfl
@[simp] theorem setPending_pending (x : List Instr) : (s.setPending x).pending = x := rfl

end Sys2Proof.Machine.State
end

