-- ==== Sys2Proof/Laws/Ops.lean ====
section
/-! SUPPORT. What each shared operation can do: the fields it leaves alone, field by field for the operations without
cases and in one lemma for the others, and what the track, the marking procedure, the queue and a request give. -/

namespace Sys2Proof.Machine

/-! ## Operations without cases: every field they leave alone -/

namespace State

variable (s : State)

@[simp] theorem raise_now (n : Notice) : (s.raise n).now = s.now := rfl
@[simp] theorem raise_freeDraws (n : Notice) : (s.raise n).freeDraws = s.freeDraws := rfl
@[simp] theorem raise_phase (n : Notice) : (s.raise n).phase = s.phase := rfl
@[simp] theorem raise_pins (n : Notice) : (s.raise n).pins = s.pins := rfl
@[simp] theorem raise_settings (n : Notice) : (s.raise n).settings = s.settings := rfl
@[simp] theorem raise_store (n : Notice) : (s.raise n).store = s.store := rfl
@[simp] theorem raise_mode (n : Notice) : (s.raise n).mode = s.mode := rfl
@[simp] theorem raise_track (n : Notice) : (s.raise n).track = s.track := rfl
@[simp] theorem raise_zones (n : Notice) : (s.raise n).zones = s.zones := rfl
@[simp] theorem raise_press (n : Notice) : (s.raise n).press = s.press := rfl
@[simp] theorem raise_rhythm (n : Notice) : (s.raise n).rhythm = s.rhythm := rfl
@[simp] theorem raise_grade (n : Notice) : (s.raise n).grade = s.grade := rfl
@[simp] theorem raise_discharge (n : Notice) : (s.raise n).discharge = s.discharge := rfl
@[simp] theorem raise_link (n : Notice) : (s.raise n).link = s.link := rfl
@[simp] theorem raise_pending (n : Notice) : (s.raise n).pending = s.pending := rfl

@[simp] theorem setFlag_now (f : EventFlag) : (s.setFlag f).now = s.now := rfl
@[simp] theorem setFlag_freeDraws (f : EventFlag) : (s.setFlag f).freeDraws = s.freeDraws := rfl
@[simp] theorem setFlag_phase (f : EventFlag) : (s.setFlag f).phase = s.phase := rfl
@[simp] theorem setFlag_pins (f : EventFlag) : (s.setFlag f).pins = s.pins := rfl
@[simp] theorem setFlag_settings (f : EventFlag) : (s.setFlag f).settings = s.settings := rfl
@[simp] theorem setFlag_store (f : EventFlag) : (s.setFlag f).store = s.store := rfl
@[simp] theorem setFlag_mode (f : EventFlag) : (s.setFlag f).mode = s.mode := rfl
@[simp] theorem setFlag_track (f : EventFlag) : (s.setFlag f).track = s.track := rfl
@[simp] theorem setFlag_zones (f : EventFlag) : (s.setFlag f).zones = s.zones := rfl
@[simp] theorem setFlag_press (f : EventFlag) : (s.setFlag f).press = s.press := rfl
@[simp] theorem setFlag_rhythm (f : EventFlag) : (s.setFlag f).rhythm = s.rhythm := rfl
@[simp] theorem setFlag_grade (f : EventFlag) : (s.setFlag f).grade = s.grade := rfl
@[simp] theorem setFlag_discharge (f : EventFlag) : (s.setFlag f).discharge = s.discharge := rfl
@[simp] theorem setFlag_link (f : EventFlag) : (s.setFlag f).link = s.link := rfl
@[simp] theorem setFlag_pending (f : EventFlag) : (s.setFlag f).pending = s.pending := rfl

@[simp] theorem onBank_now (f : CounterBank → CounterBank) : (s.onBank f).now = s.now := rfl
@[simp] theorem onBank_freeDraws (f : CounterBank → CounterBank) : (s.onBank f).freeDraws = s.freeDraws := rfl
@[simp] theorem onBank_phase (f : CounterBank → CounterBank) : (s.onBank f).phase = s.phase := rfl
@[simp] theorem onBank_pins (f : CounterBank → CounterBank) : (s.onBank f).pins = s.pins := rfl
@[simp] theorem onBank_settings (f : CounterBank → CounterBank) : (s.onBank f).settings = s.settings := rfl
@[simp] theorem onBank_store (f : CounterBank → CounterBank) : (s.onBank f).store = s.store := rfl
@[simp] theorem onBank_mode (f : CounterBank → CounterBank) : (s.onBank f).mode = s.mode := rfl
@[simp] theorem onBank_track (f : CounterBank → CounterBank) : (s.onBank f).track = s.track := rfl
@[simp] theorem onBank_zones (f : CounterBank → CounterBank) : (s.onBank f).zones = s.zones := rfl
@[simp] theorem onBank_press (f : CounterBank → CounterBank) : (s.onBank f).press = s.press := rfl
@[simp] theorem onBank_rhythm (f : CounterBank → CounterBank) : (s.onBank f).rhythm = s.rhythm := rfl
@[simp] theorem onBank_grade (f : CounterBank → CounterBank) : (s.onBank f).grade = s.grade := rfl
@[simp] theorem onBank_notices (f : CounterBank → CounterBank) : (s.onBank f).notices = s.notices := rfl
@[simp] theorem onBank_link (f : CounterBank → CounterBank) : (s.onBank f).link = s.link := rfl
@[simp] theorem onBank_pending (f : CounterBank → CounterBank) : (s.onBank f).pending = s.pending := rfl

@[simp] theorem setRows_now (r : List Row) : (s.setRows r).now = s.now := rfl
@[simp] theorem setRows_freeDraws (r : List Row) : (s.setRows r).freeDraws = s.freeDraws := rfl
@[simp] theorem setRows_phase (r : List Row) : (s.setRows r).phase = s.phase := rfl
@[simp] theorem setRows_pins (r : List Row) : (s.setRows r).pins = s.pins := rfl
@[simp] theorem setRows_settings (r : List Row) : (s.setRows r).settings = s.settings := rfl
@[simp] theorem setRows_store (r : List Row) : (s.setRows r).store = s.store := rfl
@[simp] theorem setRows_mode (r : List Row) : (s.setRows r).mode = s.mode := rfl
@[simp] theorem setRows_zones (r : List Row) : (s.setRows r).zones = s.zones := rfl
@[simp] theorem setRows_press (r : List Row) : (s.setRows r).press = s.press := rfl
@[simp] theorem setRows_rhythm (r : List Row) : (s.setRows r).rhythm = s.rhythm := rfl
@[simp] theorem setRows_grade (r : List Row) : (s.setRows r).grade = s.grade := rfl
@[simp] theorem setRows_discharge (r : List Row) : (s.setRows r).discharge = s.discharge := rfl
@[simp] theorem setRows_notices (r : List Row) : (s.setRows r).notices = s.notices := rfl
@[simp] theorem setRows_link (r : List Row) : (s.setRows r).link = s.link := rfl
@[simp] theorem setRows_pending (r : List Row) : (s.setRows r).pending = s.pending := rfl

@[simp] theorem putCard_now (f : Found) (c : CardRecord) : (s.putCard f c).now = s.now := rfl
@[simp] theorem putCard_freeDraws (f : Found) (c : CardRecord) : (s.putCard f c).freeDraws = s.freeDraws := rfl
@[simp] theorem putCard_phase (f : Found) (c : CardRecord) : (s.putCard f c).phase = s.phase := rfl
@[simp] theorem putCard_pins (f : Found) (c : CardRecord) : (s.putCard f c).pins = s.pins := rfl
@[simp] theorem putCard_settings (f : Found) (c : CardRecord) : (s.putCard f c).settings = s.settings := rfl
@[simp] theorem putCard_store (f : Found) (c : CardRecord) : (s.putCard f c).store = s.store := rfl
@[simp] theorem putCard_mode (f : Found) (c : CardRecord) : (s.putCard f c).mode = s.mode := rfl
@[simp] theorem putCard_zones (f : Found) (c : CardRecord) : (s.putCard f c).zones = s.zones := rfl
@[simp] theorem putCard_press (f : Found) (c : CardRecord) : (s.putCard f c).press = s.press := rfl
@[simp] theorem putCard_rhythm (f : Found) (c : CardRecord) : (s.putCard f c).rhythm = s.rhythm := rfl
@[simp] theorem putCard_grade (f : Found) (c : CardRecord) : (s.putCard f c).grade = s.grade := rfl
@[simp] theorem putCard_discharge (f : Found) (c : CardRecord) : (s.putCard f c).discharge = s.discharge := rfl
@[simp] theorem putCard_notices (f : Found) (c : CardRecord) : (s.putCard f c).notices = s.notices := rfl
@[simp] theorem putCard_link (f : Found) (c : CardRecord) : (s.putCard f c).link = s.link := rfl
@[simp] theorem putCard_pending (f : Found) (c : CardRecord) : (s.putCard f c).pending = s.pending := rfl

@[simp] theorem purge_now : (s.purge).now = s.now := rfl
@[simp] theorem purge_freeDraws : (s.purge).freeDraws = s.freeDraws := rfl
@[simp] theorem purge_phase : (s.purge).phase = s.phase := rfl
@[simp] theorem purge_pins : (s.purge).pins = s.pins := rfl
@[simp] theorem purge_settings : (s.purge).settings = s.settings := rfl
@[simp] theorem purge_store : (s.purge).store = s.store := rfl
@[simp] theorem purge_mode : (s.purge).mode = s.mode := rfl
@[simp] theorem purge_zones : (s.purge).zones = s.zones := rfl
@[simp] theorem purge_press : (s.purge).press = s.press := rfl
@[simp] theorem purge_rhythm : (s.purge).rhythm = s.rhythm := rfl
@[simp] theorem purge_grade : (s.purge).grade = s.grade := rfl
@[simp] theorem purge_notices : (s.purge).notices = s.notices := rfl
@[simp] theorem purge_link : (s.purge).link = s.link := rfl
@[simp] theorem purge_pending : (s.purge).pending = s.pending := rfl

@[simp] theorem rebuildTrack_now : (s.rebuildTrack).now = s.now := rfl
@[simp] theorem rebuildTrack_freeDraws : (s.rebuildTrack).freeDraws = s.freeDraws := rfl
@[simp] theorem rebuildTrack_phase : (s.rebuildTrack).phase = s.phase := rfl
@[simp] theorem rebuildTrack_pins : (s.rebuildTrack).pins = s.pins := rfl
@[simp] theorem rebuildTrack_settings : (s.rebuildTrack).settings = s.settings := rfl
@[simp] theorem rebuildTrack_store : (s.rebuildTrack).store = s.store := rfl
@[simp] theorem rebuildTrack_mode : (s.rebuildTrack).mode = s.mode := rfl
@[simp] theorem rebuildTrack_zones : (s.rebuildTrack).zones = s.zones := rfl
@[simp] theorem rebuildTrack_press : (s.rebuildTrack).press = s.press := rfl
@[simp] theorem rebuildTrack_rhythm : (s.rebuildTrack).rhythm = s.rhythm := rfl
@[simp] theorem rebuildTrack_grade : (s.rebuildTrack).grade = s.grade := rfl
@[simp] theorem rebuildTrack_discharge : (s.rebuildTrack).discharge = s.discharge := rfl
@[simp] theorem rebuildTrack_notices : (s.rebuildTrack).notices = s.notices := rfl
@[simp] theorem rebuildTrack_link : (s.rebuildTrack).link = s.link := rfl
@[simp] theorem rebuildTrack_pending : (s.rebuildTrack).pending = s.pending := rfl

@[simp] theorem reach_freeDraws (t : Nat) : (s.reach t).freeDraws = s.freeDraws := rfl
@[simp] theorem reach_phase (t : Nat) : (s.reach t).phase = s.phase := rfl
@[simp] theorem reach_pins (t : Nat) : (s.reach t).pins = s.pins := rfl
@[simp] theorem reach_settings (t : Nat) : (s.reach t).settings = s.settings := rfl
@[simp] theorem reach_store (t : Nat) : (s.reach t).store = s.store := rfl
@[simp] theorem reach_mode (t : Nat) : (s.reach t).mode = s.mode := rfl
@[simp] theorem reach_track (t : Nat) : (s.reach t).track = s.track := rfl
@[simp] theorem reach_zones (t : Nat) : (s.reach t).zones = s.zones := rfl
@[simp] theorem reach_press (t : Nat) : (s.reach t).press = s.press := rfl
@[simp] theorem reach_rhythm (t : Nat) : (s.reach t).rhythm = s.rhythm := rfl
@[simp] theorem reach_grade (t : Nat) : (s.reach t).grade = s.grade := rfl
@[simp] theorem reach_discharge (t : Nat) : (s.reach t).discharge = s.discharge := rfl
@[simp] theorem reach_notices (t : Nat) : (s.reach t).notices = s.notices := rfl
@[simp] theorem reach_link (t : Nat) : (s.reach t).link = s.link := rfl
@[simp] theorem reach_pending (t : Nat) : (s.reach t).pending = s.pending := rfl

@[simp] theorem elapse_freeDraws (ms : Nat) : (s.elapse ms).freeDraws = s.freeDraws := rfl
@[simp] theorem elapse_phase (ms : Nat) : (s.elapse ms).phase = s.phase := rfl
@[simp] theorem elapse_pins (ms : Nat) : (s.elapse ms).pins = s.pins := rfl
@[simp] theorem elapse_settings (ms : Nat) : (s.elapse ms).settings = s.settings := rfl
@[simp] theorem elapse_store (ms : Nat) : (s.elapse ms).store = s.store := rfl
@[simp] theorem elapse_mode (ms : Nat) : (s.elapse ms).mode = s.mode := rfl
@[simp] theorem elapse_track (ms : Nat) : (s.elapse ms).track = s.track := rfl
@[simp] theorem elapse_zones (ms : Nat) : (s.elapse ms).zones = s.zones := rfl
@[simp] theorem elapse_press (ms : Nat) : (s.elapse ms).press = s.press := rfl
@[simp] theorem elapse_rhythm (ms : Nat) : (s.elapse ms).rhythm = s.rhythm := rfl
@[simp] theorem elapse_grade (ms : Nat) : (s.elapse ms).grade = s.grade := rfl
@[simp] theorem elapse_discharge (ms : Nat) : (s.elapse ms).discharge = s.discharge := rfl
@[simp] theorem elapse_notices (ms : Nat) : (s.elapse ms).notices = s.notices := rfl
@[simp] theorem elapse_link (ms : Nat) : (s.elapse ms).link = s.link := rfl
@[simp] theorem elapse_pending (ms : Nat) : (s.elapse ms).pending = s.pending := rfl

@[simp] theorem frameTaken_now : (s.frameTaken).now = s.now := rfl
@[simp] theorem frameTaken_freeDraws : (s.frameTaken).freeDraws = s.freeDraws := rfl
@[simp] theorem frameTaken_phase : (s.frameTaken).phase = s.phase := rfl
@[simp] theorem frameTaken_pins : (s.frameTaken).pins = s.pins := rfl
@[simp] theorem frameTaken_settings : (s.frameTaken).settings = s.settings := rfl
@[simp] theorem frameTaken_store : (s.frameTaken).store = s.store := rfl
@[simp] theorem frameTaken_mode : (s.frameTaken).mode = s.mode := rfl
@[simp] theorem frameTaken_track : (s.frameTaken).track = s.track := rfl
@[simp] theorem frameTaken_zones : (s.frameTaken).zones = s.zones := rfl
@[simp] theorem frameTaken_press : (s.frameTaken).press = s.press := rfl
@[simp] theorem frameTaken_rhythm : (s.frameTaken).rhythm = s.rhythm := rfl
@[simp] theorem frameTaken_grade : (s.frameTaken).grade = s.grade := rfl
@[simp] theorem frameTaken_discharge : (s.frameTaken).discharge = s.discharge := rfl
@[simp] theorem frameTaken_notices : (s.frameTaken).notices = s.notices := rfl
@[simp] theorem frameTaken_pending : (s.frameTaken).pending = s.pending := rfl

@[simp] theorem answer_now (k : Byte) (p : List Byte) : (s.answer k p).now = s.now := rfl
@[simp] theorem answer_freeDraws (k : Byte) (p : List Byte) : (s.answer k p).freeDraws = s.freeDraws := rfl
@[simp] theorem answer_phase (k : Byte) (p : List Byte) : (s.answer k p).phase = s.phase := rfl
@[simp] theorem answer_pins (k : Byte) (p : List Byte) : (s.answer k p).pins = s.pins := rfl
@[simp] theorem answer_settings (k : Byte) (p : List Byte) : (s.answer k p).settings = s.settings := rfl
@[simp] theorem answer_store (k : Byte) (p : List Byte) : (s.answer k p).store = s.store := rfl
@[simp] theorem answer_mode (k : Byte) (p : List Byte) : (s.answer k p).mode = s.mode := rfl
@[simp] theorem answer_track (k : Byte) (p : List Byte) : (s.answer k p).track = s.track := rfl
@[simp] theorem answer_zones (k : Byte) (p : List Byte) : (s.answer k p).zones = s.zones := rfl
@[simp] theorem answer_press (k : Byte) (p : List Byte) : (s.answer k p).press = s.press := rfl
@[simp] theorem answer_rhythm (k : Byte) (p : List Byte) : (s.answer k p).rhythm = s.rhythm := rfl
@[simp] theorem answer_grade (k : Byte) (p : List Byte) : (s.answer k p).grade = s.grade := rfl
@[simp] theorem answer_discharge (k : Byte) (p : List Byte) : (s.answer k p).discharge = s.discharge := rfl
@[simp] theorem answer_notices (k : Byte) (p : List Byte) : (s.answer k p).notices = s.notices := rfl
@[simp] theorem answer_pending (k : Byte) (p : List Byte) : (s.answer k p).pending = s.pending := rfl

@[simp] theorem enterMode_now (m : Mode) (h : HaltCause) : (s.enterMode m h).now = s.now := rfl
@[simp] theorem enterMode_freeDraws (m : Mode) (h : HaltCause) : (s.enterMode m h).freeDraws = s.freeDraws := rfl
@[simp] theorem enterMode_phase (m : Mode) (h : HaltCause) : (s.enterMode m h).phase = s.phase := rfl
@[simp] theorem enterMode_pins (m : Mode) (h : HaltCause) : (s.enterMode m h).pins = s.pins := rfl
@[simp] theorem enterMode_settings (m : Mode) (h : HaltCause) : (s.enterMode m h).settings = s.settings := rfl
@[simp] theorem enterMode_store (m : Mode) (h : HaltCause) : (s.enterMode m h).store = s.store := rfl
@[simp] theorem enterMode_track (m : Mode) (h : HaltCause) : (s.enterMode m h).track = s.track := rfl
@[simp] theorem enterMode_zones (m : Mode) (h : HaltCause) : (s.enterMode m h).zones = s.zones := rfl
@[simp] theorem enterMode_press (m : Mode) (h : HaltCause) : (s.enterMode m h).press = s.press := rfl
@[simp] theorem enterMode_rhythm (m : Mode) (h : HaltCause) : (s.enterMode m h).rhythm = s.rhythm := rfl
@[simp] theorem enterMode_grade (m : Mode) (h : HaltCause) : (s.enterMode m h).grade = s.grade := rfl
@[simp] theorem enterMode_discharge (m : Mode) (h : HaltCause) : (s.enterMode m h).discharge = s.discharge := rfl
@[simp] theorem enterMode_notices (m : Mode) (h : HaltCause) : (s.enterMode m h).notices = s.notices := rfl
@[simp] theorem enterMode_link (m : Mode) (h : HaltCause) : (s.enterMode m h).link = s.link := rfl
@[simp] theorem enterMode_pending (m : Mode) (h : HaltCause) : (s.enterMode m h).pending = s.pending := rfl

@[simp] theorem modeEvent_now (b : Mode) (c : ModeCause) (d : ModeDetail) : (s.modeEvent b c d).now = s.now := rfl
@[simp] theorem modeEvent_freeDraws (b : Mode) (c : ModeCause) (d : ModeDetail) : (s.modeEvent b c d).freeDraws = s.freeDraws := rfl
@[simp] theorem modeEvent_phase (b : Mode) (c : ModeCause) (d : ModeDetail) : (s.modeEvent b c d).phase = s.phase := rfl
@[simp] theorem modeEvent_pins (b : Mode) (c : ModeCause) (d : ModeDetail) : (s.modeEvent b c d).pins = s.pins := rfl
@[simp] theorem modeEvent_settings (b : Mode) (c : ModeCause) (d : ModeDetail) : (s.modeEvent b c d).settings = s.settings := rfl
@[simp] theorem modeEvent_store (b : Mode) (c : ModeCause) (d : ModeDetail) : (s.modeEvent b c d).store = s.store := rfl
@[simp] theorem modeEvent_mode (b : Mode) (c : ModeCause) (d : ModeDetail) : (s.modeEvent b c d).mode = s.mode := rfl
@[simp] theorem modeEvent_track (b : Mode) (c : ModeCause) (d : ModeDetail) : (s.modeEvent b c d).track = s.track := rfl
@[simp] theorem modeEvent_zones (b : Mode) (c : ModeCause) (d : ModeDetail) : (s.modeEvent b c d).zones = s.zones := rfl
@[simp] theorem modeEvent_press (b : Mode) (c : ModeCause) (d : ModeDetail) : (s.modeEvent b c d).press = s.press := rfl
@[simp] theorem modeEvent_rhythm (b : Mode) (c : ModeCause) (d : ModeDetail) : (s.modeEvent b c d).rhythm = s.rhythm := rfl
@[simp] theorem modeEvent_grade (b : Mode) (c : ModeCause) (d : ModeDetail) : (s.modeEvent b c d).grade = s.grade := rfl
@[simp] theorem modeEvent_discharge (b : Mode) (c : ModeCause) (d : ModeDetail) : (s.modeEvent b c d).discharge = s.discharge := rfl
@[simp] theorem modeEvent_link (b : Mode) (c : ModeCause) (d : ModeDetail) : (s.modeEvent b c d).link = s.link := rfl
@[simp] theorem modeEvent_pending (b : Mode) (c : ModeCause) (d : ModeDetail) : (s.modeEvent b c d).pending = s.pending := rfl

@[simp] theorem rhythmEvent_now (b : RhythmState) (c : RhythmCause) (j : Judgement) (n : Nat) : (s.rhythmEvent b c j n).now = s.now := rfl
@[simp] theorem rhythmEvent_freeDraws (b : RhythmState) (c : RhythmCause) (j : Judgement) (n : Nat) : (s.rhythmEvent b c j n).freeDraws = s.freeDraws := rfl
@[simp] theorem rhythmEvent_phase (b : RhythmState) (c : RhythmCause) (j : Judgement) (n : Nat) : (s.rhythmEvent b c j n).phase = s.phase := rfl
@[simp] theorem rhythmEvent_pins (b : RhythmState) (c : RhythmCause) (j : Judgement) (n : Nat) : (s.rhythmEvent b c j n).pins = s.pins := rfl
@[simp] theorem rhythmEvent_settings (b : RhythmState) (c : RhythmCause) (j : Judgement) (n : Nat) : (s.rhythmEvent b c j n).settings = s.settings := rfl
@[simp] theorem rhythmEvent_store (b : RhythmState) (c : RhythmCause) (j : Judgement) (n : Nat) : (s.rhythmEvent b c j n).store = s.store := rfl
@[simp] theorem rhythmEvent_mode (b : RhythmState) (c : RhythmCause) (j : Judgement) (n : Nat) : (s.rhythmEvent b c j n).mode = s.mode := rfl
@[simp] theorem rhythmEvent_track (b : RhythmState) (c : RhythmCause) (j : Judgement) (n : Nat) : (s.rhythmEvent b c j n).track = s.track := rfl
@[simp] theorem rhythmEvent_zones (b : RhythmState) (c : RhythmCause) (j : Judgement) (n : Nat) : (s.rhythmEvent b c j n).zones = s.zones := rfl
@[simp] theorem rhythmEvent_press (b : RhythmState) (c : RhythmCause) (j : Judgement) (n : Nat) : (s.rhythmEvent b c j n).press = s.press := rfl
@[simp] theorem rhythmEvent_rhythm (b : RhythmState) (c : RhythmCause) (j : Judgement) (n : Nat) : (s.rhythmEvent b c j n).rhythm = s.rhythm := rfl
@[simp] theorem rhythmEvent_grade (b : RhythmState) (c : RhythmCause) (j : Judgement) (n : Nat) : (s.rhythmEvent b c j n).grade = s.grade := rfl
@[simp] theorem rhythmEvent_discharge (b : RhythmState) (c : RhythmCause) (j : Judgement) (n : Nat) : (s.rhythmEvent b c j n).discharge = s.discharge := rfl
@[simp] theorem rhythmEvent_link (b : RhythmState) (c : RhythmCause) (j : Judgement) (n : Nat) : (s.rhythmEvent b c j n).link = s.link := rfl
@[simp] theorem rhythmEvent_pending (b : RhythmState) (c : RhythmCause) (j : Judgement) (n : Nat) : (s.rhythmEvent b c j n).pending = s.pending := rfl

@[simp] theorem takeStall_now : (s.takeStall).now = s.now := rfl
@[simp] theorem takeStall_freeDraws : (s.takeStall).freeDraws = s.freeDraws := rfl
@[simp] theorem takeStall_phase : (s.takeStall).phase = s.phase := rfl
@[simp] theorem takeStall_pins : (s.takeStall).pins = s.pins := rfl
@[simp] theorem takeStall_settings : (s.takeStall).settings = s.settings := rfl
@[simp] theorem takeStall_store : (s.takeStall).store = s.store := rfl
@[simp] theorem takeStall_mode : (s.takeStall).mode = s.mode := rfl
@[simp] theorem takeStall_track : (s.takeStall).track = s.track := rfl
@[simp] theorem takeStall_zones : (s.takeStall).zones = s.zones := rfl
@[simp] theorem takeStall_press : (s.takeStall).press = s.press := rfl
@[simp] theorem takeStall_grade : (s.takeStall).grade = s.grade := rfl
@[simp] theorem takeStall_discharge : (s.takeStall).discharge = s.discharge := rfl
@[simp] theorem takeStall_link : (s.takeStall).link = s.link := rfl
@[simp] theorem takeStall_pending : (s.takeStall).pending = s.pending := rfl

@[simp] theorem restartStall_now : (s.restartStall).now = s.now := rfl
@[simp] theorem restartStall_freeDraws : (s.restartStall).freeDraws = s.freeDraws := rfl
@[simp] theorem restartStall_phase : (s.restartStall).phase = s.phase := rfl
@[simp] theorem restartStall_pins : (s.restartStall).pins = s.pins := rfl
@[simp] theorem restartStall_settings : (s.restartStall).settings = s.settings := rfl
@[simp] theorem restartStall_store : (s.restartStall).store = s.store := rfl
@[simp] theorem restartStall_mode : (s.restartStall).mode = s.mode := rfl
@[simp] theorem restartStall_track : (s.restartStall).track = s.track := rfl
@[simp] theorem restartStall_zones : (s.restartStall).zones = s.zones := rfl
@[simp] theorem restartStall_press : (s.restartStall).press = s.press := rfl
@[simp] theorem restartStall_grade : (s.restartStall).grade = s.grade := rfl
@[simp] theorem restartStall_discharge : (s.restartStall).discharge = s.discharge := rfl
@[simp] theorem restartStall_notices : (s.restartStall).notices = s.notices := rfl
@[simp] theorem restartStall_link : (s.restartStall).link = s.link := rfl
@[simp] theorem restartStall_pending : (s.restartStall).pending = s.pending := rfl

@[simp] theorem gradeEvent_now (c : GradeCause) (r : RestoreSource) (b : GradeUnit) : (s.gradeEvent c r b).now = s.now := rfl
@[simp] theorem gradeEvent_freeDraws (c : GradeCause) (r : RestoreSource) (b : GradeUnit) : (s.gradeEvent c r b).freeDraws = s.freeDraws := rfl
@[simp] theorem gradeEvent_phase (c : GradeCause) (r : RestoreSource) (b : GradeUnit) : (s.gradeEvent c r b).phase = s.phase := rfl
@[simp] theorem gradeEvent_pins (c : GradeCause) (r : RestoreSource) (b : GradeUnit) : (s.gradeEvent c r b).pins = s.pins := rfl
@[simp] theorem gradeEvent_settings (c : GradeCause) (r : RestoreSource) (b : GradeUnit) : (s.gradeEvent c r b).settings = s.settings := rfl
@[simp] theorem gradeEvent_store (c : GradeCause) (r : RestoreSource) (b : GradeUnit) : (s.gradeEvent c r b).store = s.store := rfl
@[simp] theorem gradeEvent_mode (c : GradeCause) (r : RestoreSource) (b : GradeUnit) : (s.gradeEvent c r b).mode = s.mode := rfl
@[simp] theorem gradeEvent_track (c : GradeCause) (r : RestoreSource) (b : GradeUnit) : (s.gradeEvent c r b).track = s.track := rfl
@[simp] theorem gradeEvent_zones (c : GradeCause) (r : RestoreSource) (b : GradeUnit) : (s.gradeEvent c r b).zones = s.zones := rfl
@[simp] theorem gradeEvent_press (c : GradeCause) (r : RestoreSource) (b : GradeUnit) : (s.gradeEvent c r b).press = s.press := rfl
@[simp] theorem gradeEvent_rhythm (c : GradeCause) (r : RestoreSource) (b : GradeUnit) : (s.gradeEvent c r b).rhythm = s.rhythm := rfl
@[simp] theorem gradeEvent_grade (c : GradeCause) (r : RestoreSource) (b : GradeUnit) : (s.gradeEvent c r b).grade = s.grade := rfl
@[simp] theorem gradeEvent_discharge (c : GradeCause) (r : RestoreSource) (b : GradeUnit) : (s.gradeEvent c r b).discharge = s.discharge := rfl
@[simp] theorem gradeEvent_link (c : GradeCause) (r : RestoreSource) (b : GradeUnit) : (s.gradeEvent c r b).link = s.link := rfl
@[simp] theorem gradeEvent_pending (c : GradeCause) (r : RestoreSource) (b : GradeUnit) : (s.gradeEvent c r b).pending = s.pending := rfl

@[simp] theorem recomputeCommon_now : (s.recomputeCommon).now = s.now := rfl
@[simp] theorem recomputeCommon_freeDraws : (s.recomputeCommon).freeDraws = s.freeDraws := rfl
@[simp] theorem recomputeCommon_phase : (s.recomputeCommon).phase = s.phase := rfl
@[simp] theorem recomputeCommon_pins : (s.recomputeCommon).pins = s.pins := rfl
@[simp] theorem recomputeCommon_settings : (s.recomputeCommon).settings = s.settings := rfl
@[simp] theorem recomputeCommon_store : (s.recomputeCommon).store = s.store := rfl
@[simp] theorem recomputeCommon_mode : (s.recomputeCommon).mode = s.mode := rfl
@[simp] theorem recomputeCommon_track : (s.recomputeCommon).track = s.track := rfl
@[simp] theorem recomputeCommon_zones : (s.recomputeCommon).zones = s.zones := rfl
@[simp] theorem recomputeCommon_press : (s.recomputeCommon).press = s.press := rfl
@[simp] theorem recomputeCommon_rhythm : (s.recomputeCommon).rhythm = s.rhythm := rfl
@[simp] theorem recomputeCommon_discharge : (s.recomputeCommon).discharge = s.discharge := rfl
@[simp] theorem recomputeCommon_notices : (s.recomputeCommon).notices = s.notices := rfl
@[simp] theorem recomputeCommon_link : (s.recomputeCommon).link = s.link := rfl
@[simp] theorem recomputeCommon_pending : (s.recomputeCommon).pending = s.pending := rfl

@[simp] theorem giveAction_now (o : GateOutput) : (s.giveAction o).now = s.now := rfl
@[simp] theorem giveAction_freeDraws (o : GateOutput) : (s.giveAction o).freeDraws = s.freeDraws := rfl
@[simp] theorem giveAction_phase (o : GateOutput) : (s.giveAction o).phase = s.phase := rfl
@[simp] theorem giveAction_pins (o : GateOutput) : (s.giveAction o).pins = s.pins := rfl
@[simp] theorem giveAction_settings (o : GateOutput) : (s.giveAction o).settings = s.settings := rfl
@[simp] theorem giveAction_store (o : GateOutput) : (s.giveAction o).store = s.store := rfl
@[simp] theorem giveAction_mode (o : GateOutput) : (s.giveAction o).mode = s.mode := rfl
@[simp] theorem giveAction_track (o : GateOutput) : (s.giveAction o).track = s.track := rfl
@[simp] theorem giveAction_zones (o : GateOutput) : (s.giveAction o).zones = s.zones := rfl
@[simp] theorem giveAction_press (o : GateOutput) : (s.giveAction o).press = s.press := rfl
@[simp] theorem giveAction_rhythm (o : GateOutput) : (s.giveAction o).rhythm = s.rhythm := rfl
@[simp] theorem giveAction_grade (o : GateOutput) : (s.giveAction o).grade = s.grade := rfl
@[simp] theorem giveAction_notices (o : GateOutput) : (s.giveAction o).notices = s.notices := rfl
@[simp] theorem giveAction_link (o : GateOutput) : (s.giveAction o).link = s.link := rfl
@[simp] theorem giveAction_pending (o : GateOutput) : (s.giveAction o).pending = s.pending := rfl

@[simp] theorem pressFromSwitches_now : (s.pressFromSwitches).now = s.now := rfl
@[simp] theorem pressFromSwitches_freeDraws : (s.pressFromSwitches).freeDraws = s.freeDraws := rfl
@[simp] theorem pressFromSwitches_phase : (s.pressFromSwitches).phase = s.phase := rfl
@[simp] theorem pressFromSwitches_pins : (s.pressFromSwitches).pins = s.pins := rfl
@[simp] theorem pressFromSwitches_settings : (s.pressFromSwitches).settings = s.settings := rfl
@[simp] theorem pressFromSwitches_store : (s.pressFromSwitches).store = s.store := rfl
@[simp] theorem pressFromSwitches_mode : (s.pressFromSwitches).mode = s.mode := rfl
@[simp] theorem pressFromSwitches_track : (s.pressFromSwitches).track = s.track := rfl
@[simp] theorem pressFromSwitches_zones : (s.pressFromSwitches).zones = s.zones := rfl
@[simp] theorem pressFromSwitches_rhythm : (s.pressFromSwitches).rhythm = s.rhythm := rfl
@[simp] theorem pressFromSwitches_grade : (s.pressFromSwitches).grade = s.grade := rfl
@[simp] theorem pressFromSwitches_discharge : (s.pressFromSwitches).discharge = s.discharge := rfl
@[simp] theorem pressFromSwitches_notices : (s.pressFromSwitches).notices = s.notices := rfl
@[simp] theorem pressFromSwitches_link : (s.pressFromSwitches).link = s.link := rfl
@[simp] theorem pressFromSwitches_pending : (s.pressFromSwitches).pending = s.pending := rfl

@[simp] theorem afterReply_now (k : Byte) (p : List Byte) : (s.afterReply k p).now = s.now := rfl
@[simp] theorem afterReply_freeDraws (k : Byte) (p : List Byte) : (s.afterReply k p).freeDraws = s.freeDraws := rfl
@[simp] theorem afterReply_phase (k : Byte) (p : List Byte) : (s.afterReply k p).phase = s.phase := rfl
@[simp] theorem afterReply_pins (k : Byte) (p : List Byte) : (s.afterReply k p).pins = s.pins := rfl
@[simp] theorem afterReply_settings (k : Byte) (p : List Byte) : (s.afterReply k p).settings = s.settings := rfl
@[simp] theorem afterReply_store (k : Byte) (p : List Byte) : (s.afterReply k p).store = s.store := rfl
@[simp] theorem afterReply_mode (k : Byte) (p : List Byte) : (s.afterReply k p).mode = s.mode := rfl
@[simp] theorem afterReply_track (k : Byte) (p : List Byte) : (s.afterReply k p).track = s.track := rfl
@[simp] theorem afterReply_zones (k : Byte) (p : List Byte) : (s.afterReply k p).zones = s.zones := rfl
@[simp] theorem afterReply_press (k : Byte) (p : List Byte) : (s.afterReply k p).press = s.press := rfl
@[simp] theorem afterReply_rhythm (k : Byte) (p : List Byte) : (s.afterReply k p).rhythm = s.rhythm := rfl
@[simp] theorem afterReply_grade (k : Byte) (p : List Byte) : (s.afterReply k p).grade = s.grade := rfl
@[simp] theorem afterReply_discharge (k : Byte) (p : List Byte) : (s.afterReply k p).discharge = s.discharge := rfl
@[simp] theorem afterReply_notices (k : Byte) (p : List Byte) : (s.afterReply k p).notices = s.notices := rfl
@[simp] theorem afterReply_pending (k : Byte) (p : List Byte) : (s.afterReply k p).pending = s.pending := rfl

@[simp] theorem afterFrame_now : (s.afterFrame).now = s.now := rfl
@[simp] theorem afterFrame_freeDraws : (s.afterFrame).freeDraws = s.freeDraws := rfl
@[simp] theorem afterFrame_phase : (s.afterFrame).phase = s.phase := rfl
@[simp] theorem afterFrame_pins : (s.afterFrame).pins = s.pins := rfl
@[simp] theorem afterFrame_settings : (s.afterFrame).settings = s.settings := rfl
@[simp] theorem afterFrame_store : (s.afterFrame).store = s.store := rfl
@[simp] theorem afterFrame_mode : (s.afterFrame).mode = s.mode := rfl
@[simp] theorem afterFrame_track : (s.afterFrame).track = s.track := rfl
@[simp] theorem afterFrame_zones : (s.afterFrame).zones = s.zones := rfl
@[simp] theorem afterFrame_press : (s.afterFrame).press = s.press := rfl
@[simp] theorem afterFrame_rhythm : (s.afterFrame).rhythm = s.rhythm := rfl
@[simp] theorem afterFrame_grade : (s.afterFrame).grade = s.grade := rfl
@[simp] theorem afterFrame_discharge : (s.afterFrame).discharge = s.discharge := rfl
@[simp] theorem afterFrame_notices : (s.afterFrame).notices = s.notices := rfl
@[simp] theorem afterFrame_pending : (s.afterFrame).pending = s.pending := rfl

end State

/-! ## Operations with cases -/

/-- A stall that may be due moves the rhythm and the notices alone. -/
theorem State.stallIfDue_frame (s : State) :
    (s.stallIfDue).now = s.now ∧ (s.stallIfDue).freeDraws = s.freeDraws ∧ (s.stallIfDue).phase = s.phase ∧
    (s.stallIfDue).pins = s.pins ∧ (s.stallIfDue).settings = s.settings ∧ (s.stallIfDue).store = s.store ∧
    (s.stallIfDue).mode = s.mode ∧ (s.stallIfDue).track = s.track ∧ (s.stallIfDue).zones = s.zones ∧
    (s.stallIfDue).press = s.press ∧ (s.stallIfDue).grade = s.grade ∧ (s.stallIfDue).discharge = s.discharge ∧
    (s.stallIfDue).link = s.link ∧ (s.stallIfDue).pending = s.pending := by
  unfold State.stallIfDue
  split <;> simp

/-- A change of the expected period moves the rhythm and the notices alone. -/
theorem State.periodChange_frame (s : State) :
    (s.periodChange).now = s.now ∧ (s.periodChange).freeDraws = s.freeDraws ∧ (s.periodChange).phase = s.phase ∧
    (s.periodChange).pins = s.pins ∧ (s.periodChange).settings = s.settings ∧ (s.periodChange).store = s.store ∧
    (s.periodChange).mode = s.mode ∧ (s.periodChange).track = s.track ∧ (s.periodChange).zones = s.zones ∧
    (s.periodChange).press = s.press ∧ (s.periodChange).grade = s.grade ∧ (s.periodChange).discharge = s.discharge ∧
    (s.periodChange).link = s.link ∧ (s.periodChange).pending = s.pending := by
  unfold State.periodChange
  split <;> simp [State.stallIfDue_frame]

/-- Handing on a grade moves the rhythm and the notices alone. -/
theorem State.handGrade_frame (s : State) (g : Grade) :
    (s.handGrade g).now = s.now ∧ (s.handGrade g).freeDraws = s.freeDraws ∧ (s.handGrade g).phase = s.phase ∧
    (s.handGrade g).pins = s.pins ∧ (s.handGrade g).settings = s.settings ∧ (s.handGrade g).store = s.store ∧
    (s.handGrade g).mode = s.mode ∧ (s.handGrade g).track = s.track ∧ (s.handGrade g).zones = s.zones ∧
    (s.handGrade g).press = s.press ∧ (s.handGrade g).grade = s.grade ∧ (s.handGrade g).discharge = s.discharge ∧
    (s.handGrade g).link = s.link ∧ (s.handGrade g).pending = s.pending := by
  unfold State.handGrade
  split <;> simp [State.periodChange_frame]

/-- A restore moves the selector, the rhythm and the notices alone. -/
theorem State.restore_frame (s : State) (r : RestoreSource) :
    (s.restore r).now = s.now ∧ (s.restore r).freeDraws = s.freeDraws ∧ (s.restore r).phase = s.phase ∧
    (s.restore r).pins = s.pins ∧ (s.restore r).settings = s.settings ∧ (s.restore r).store = s.store ∧
    (s.restore r).mode = s.mode ∧ (s.restore r).track = s.track ∧ (s.restore r).zones = s.zones ∧
    (s.restore r).press = s.press ∧ (s.restore r).discharge = s.discharge ∧ (s.restore r).link = s.link ∧
    (s.restore r).pending = s.pending := by
  unfold State.restore
  dsimp only
  split <;> simp [State.handGrade_frame]

/-- A recomputation that may restore moves the selector, the rhythm and the notices alone. -/
theorem State.recomputeRestoring_frame (s : State) (r : RestoreSource) :
    (s.recomputeRestoring r).now = s.now ∧ (s.recomputeRestoring r).freeDraws = s.freeDraws ∧ (s.recomputeRestoring r).phase = s.phase ∧
    (s.recomputeRestoring r).pins = s.pins ∧ (s.recomputeRestoring r).settings = s.settings ∧ (s.recomputeRestoring r).store = s.store ∧
    (s.recomputeRestoring r).mode = s.mode ∧ (s.recomputeRestoring r).track = s.track ∧ (s.recomputeRestoring r).zones = s.zones ∧
    (s.recomputeRestoring r).press = s.press ∧ (s.recomputeRestoring r).discharge = s.discharge ∧ (s.recomputeRestoring r).link = s.link ∧
    (s.recomputeRestoring r).pending = s.pending := by
  unfold State.recomputeRestoring
  dsimp only
  split <;> simp [State.restore_frame]

/-- A restore-idle signal that may be due moves the selector, the rhythm and the notices alone. -/
theorem State.restoreIdleIfDue_frame (s : State) :
    (s.restoreIdleIfDue).now = s.now ∧ (s.restoreIdleIfDue).freeDraws = s.freeDraws ∧ (s.restoreIdleIfDue).phase = s.phase ∧
    (s.restoreIdleIfDue).pins = s.pins ∧ (s.restoreIdleIfDue).settings = s.settings ∧ (s.restoreIdleIfDue).store = s.store ∧
    (s.restoreIdleIfDue).mode = s.mode ∧ (s.restoreIdleIfDue).track = s.track ∧ (s.restoreIdleIfDue).zones = s.zones ∧
    (s.restoreIdleIfDue).press = s.press ∧ (s.restoreIdleIfDue).discharge = s.discharge ∧ (s.restoreIdleIfDue).link = s.link ∧
    (s.restoreIdleIfDue).pending = s.pending := by
  unfold State.restoreIdleIfDue
  split
  · split <;> simp [State.giveRestoreIdle, State.restore_frame]
  · simp

/-- A stroke outcome moves the selector, the rhythm, the notices and the counter bank alone. -/
theorem State.takeOutcome_frame (s : State) (o : StrokeOutcome) :
    (s.takeOutcome o).now = s.now ∧ (s.takeOutcome o).freeDraws = s.freeDraws ∧ (s.takeOutcome o).phase = s.phase ∧
    (s.takeOutcome o).pins = s.pins ∧ (s.takeOutcome o).settings = s.settings ∧ (s.takeOutcome o).store = s.store ∧
    (s.takeOutcome o).mode = s.mode ∧ (s.takeOutcome o).track = s.track ∧ (s.takeOutcome o).zones = s.zones ∧
    (s.takeOutcome o).press = s.press ∧ (s.takeOutcome o).link = s.link ∧ (s.takeOutcome o).pending = s.pending := by
  cases o
  · simp only [State.takeOutcome, State.failingOutcome]
    split
    · split <;> simp [State.downgrade, State.limitHold, State.handGrade_frame]
    · simp
  · simp only [State.takeOutcome, State.cleanOutcome]
    split
    · split <;> simp [State.recoverGrade, State.handGrade_frame]
    · simp
  · simp [State.takeOutcome]

/-- Handing over an outcome moves the selector, the rhythm, the notices and the counter bank alone. -/
theorem State.handOutcome_frame (s : State) (o : StrokeOutcome) :
    (s.handOutcome o).now = s.now ∧ (s.handOutcome o).freeDraws = s.freeDraws ∧ (s.handOutcome o).phase = s.phase ∧
    (s.handOutcome o).pins = s.pins ∧ (s.handOutcome o).settings = s.settings ∧ (s.handOutcome o).store = s.store ∧
    (s.handOutcome o).mode = s.mode ∧ (s.handOutcome o).track = s.track ∧ (s.handOutcome o).zones = s.zones ∧
    (s.handOutcome o).press = s.press ∧ (s.handOutcome o).link = s.link ∧ (s.handOutcome o).pending = s.pending := by
  unfold State.handOutcome
  split <;> simp [State.takeOutcome_frame]

/-- The first write of a seal part moves the track alone. -/
theorem State.writePressing_frame (s : State) (n : Serial) :
    (s.writePressing n).now = s.now ∧ (s.writePressing n).freeDraws = s.freeDraws ∧ (s.writePressing n).phase = s.phase ∧
    (s.writePressing n).pins = s.pins ∧ (s.writePressing n).settings = s.settings ∧ (s.writePressing n).store = s.store ∧
    (s.writePressing n).mode = s.mode ∧ (s.writePressing n).zones = s.zones ∧ (s.writePressing n).press = s.press ∧
    (s.writePressing n).rhythm = s.rhythm ∧ (s.writePressing n).grade = s.grade ∧ (s.writePressing n).discharge = s.discharge ∧
    (s.writePressing n).notices = s.notices ∧ (s.writePressing n).link = s.link ∧ (s.writePressing n).pending = s.pending := by
  unfold State.writePressing
  split
  · split <;> simp
  · simp

/-- The final write of a seal part moves the track alone. -/
theorem State.writeFinal_frame (s : State) (n : Serial) (x : SealPart) (ks : List MarkKind) :
    (s.writeFinal n x ks).1.now = s.now ∧ (s.writeFinal n x ks).1.freeDraws = s.freeDraws ∧ (s.writeFinal n x ks).1.phase = s.phase ∧
    (s.writeFinal n x ks).1.pins = s.pins ∧ (s.writeFinal n x ks).1.settings = s.settings ∧ (s.writeFinal n x ks).1.store = s.store ∧
    (s.writeFinal n x ks).1.mode = s.mode ∧ (s.writeFinal n x ks).1.zones = s.zones ∧ (s.writeFinal n x ks).1.press = s.press ∧
    (s.writeFinal n x ks).1.rhythm = s.rhythm ∧ (s.writeFinal n x ks).1.grade = s.grade ∧ (s.writeFinal n x ks).1.discharge = s.discharge ∧
    (s.writeFinal n x ks).1.notices = s.notices ∧ (s.writeFinal n x ks).1.link = s.link ∧ (s.writeFinal n x ks).1.pending = s.pending := by
  unfold State.writeFinal
  split
  · split <;> simp
  · simp

/-- The release moves the press alone. -/
theorem State.releasePress_frame (s : State) :
    (s.releasePress).now = s.now ∧ (s.releasePress).freeDraws = s.freeDraws ∧ (s.releasePress).phase = s.phase ∧
    (s.releasePress).pins = s.pins ∧ (s.releasePress).settings = s.settings ∧ (s.releasePress).store = s.store ∧
    (s.releasePress).mode = s.mode ∧ (s.releasePress).track = s.track ∧ (s.releasePress).zones = s.zones ∧
    (s.releasePress).rhythm = s.rhythm ∧ (s.releasePress).grade = s.grade ∧ (s.releasePress).discharge = s.discharge ∧
    (s.releasePress).notices = s.notices ∧ (s.releasePress).link = s.link ∧ (s.releasePress).pending = s.pending := by
  unfold State.releasePress
  split <;> simp

/-- The final writes of a stroke's lanes move the track alone. -/
theorem finishLanes_frame (ctx : StrokeContext) (cause : EndCause) (ks : List StrokeLane) :
    ∀ acc : State × Quad (Option StrokeReport),
      (ks.foldl (finishLane ctx cause) acc).1 =
        acc.1.setTrack (ks.foldl (finishLane ctx cause) acc).1.track := by
  have one : ∀ (acc : State × Quad (Option StrokeReport)) (k : StrokeLane),
      (finishLane ctx cause acc k).1 = acc.1.setTrack (finishLane ctx cause acc k).1.track := by
    intro acc k
    simp only [finishLane, State.writeFinal]
    split
    · split <;> rfl
    · rfl
  induction ks with
  | nil => intro acc; rfl
  | cons k ks ih =>
    intro acc
    rw [List.foldl_cons, ih, one]
    rfl

/-- Steps 1 to 6 of a termination move the track, the notices, the selector, the rhythm and the bank alone. -/
theorem State.finishStroke_frame (s : State) (x : StrokeContext) (c : EndCause) :
    (s.finishStroke x c).now = s.now ∧ (s.finishStroke x c).freeDraws = s.freeDraws ∧ (s.finishStroke x c).phase = s.phase ∧
    (s.finishStroke x c).pins = s.pins ∧ (s.finishStroke x c).settings = s.settings ∧ (s.finishStroke x c).store = s.store ∧
    (s.finishStroke x c).mode = s.mode ∧ (s.finishStroke x c).zones = s.zones ∧ (s.finishStroke x c).press = s.press ∧
    (s.finishStroke x c).link = s.link ∧ (s.finishStroke x c).pending = s.pending := by
  unfold State.finishStroke
  dsimp only
  rw [finishLanes_frame]
  simp [State.handOutcome_frame]

/-- A termination moves the track, the notices, the selector, the rhythm, the bank and the press alone. -/
theorem State.terminate_frame (s : State) (c : EndCause) :
    (s.terminate c).now = s.now ∧ (s.terminate c).freeDraws = s.freeDraws ∧ (s.terminate c).phase = s.phase ∧
    (s.terminate c).pins = s.pins ∧ (s.terminate c).settings = s.settings ∧ (s.terminate c).store = s.store ∧
    (s.terminate c).mode = s.mode ∧ (s.terminate c).zones = s.zones ∧ (s.terminate c).link = s.link ∧
    (s.terminate c).pending = s.pending := by
  unfold State.terminate
  split <;> simp [State.releasePress_frame, State.finishStroke_frame]

/-- A termination that may find no stroke moves no more than a termination does. -/
theorem State.terminateAny_frame (s : State) (c : EndCause) :
    (s.terminateAny c).now = s.now ∧ (s.terminateAny c).freeDraws = s.freeDraws ∧ (s.terminateAny c).phase = s.phase ∧
    (s.terminateAny c).pins = s.pins ∧ (s.terminateAny c).settings = s.settings ∧ (s.terminateAny c).store = s.store ∧
    (s.terminateAny c).mode = s.mode ∧ (s.terminateAny c).zones = s.zones ∧ (s.terminateAny c).link = s.link ∧
    (s.terminateAny c).pending = s.pending := by
  unfold State.terminateAny
  split <;> simp [State.terminate_frame]

/-- A halt request moves the mode and what a termination moves. -/
theorem State.haltRequest_frame (s : State) (c : HaltCause) :
    (s.haltRequest c).now = s.now ∧ (s.haltRequest c).freeDraws = s.freeDraws ∧ (s.haltRequest c).phase = s.phase ∧
    (s.haltRequest c).pins = s.pins ∧ (s.haltRequest c).settings = s.settings ∧ (s.haltRequest c).store = s.store ∧
    (s.haltRequest c).zones = s.zones ∧ (s.haltRequest c).link = s.link ∧ (s.haltRequest c).pending = s.pending := by
  unfold State.haltRequest
  split <;> simp [State.terminateAny_frame]

/-- One discharged slot moves the Discharge Unit alone. -/
theorem State.dischargeSlot_frame (s : State) (l : Lane) (x : Slot) :
    (s.dischargeSlot l x).now = s.now ∧ (s.dischargeSlot l x).freeDraws = s.freeDraws ∧ (s.dischargeSlot l x).phase = s.phase ∧
    (s.dischargeSlot l x).pins = s.pins ∧ (s.dischargeSlot l x).settings = s.settings ∧ (s.dischargeSlot l x).store = s.store ∧
    (s.dischargeSlot l x).mode = s.mode ∧ (s.dischargeSlot l x).track = s.track ∧ (s.dischargeSlot l x).zones = s.zones ∧
    (s.dischargeSlot l x).press = s.press ∧ (s.dischargeSlot l x).rhythm = s.rhythm ∧ (s.dischargeSlot l x).grade = s.grade ∧
    (s.dischargeSlot l x).notices = s.notices ∧ (s.dischargeSlot l x).link = s.link ∧ (s.dischargeSlot l x).pending = s.pending := by
  unfold State.dischargeSlot
  dsimp only
  split <;> simp

/-- The four discharged slots move the Discharge Unit alone. -/
theorem State.dischargeRow_eq (s : State) (r : Row) :
    s.dischargeRow r = s.setDischarge (s.dischargeRow r).discharge := by
  have one : ∀ (t : State) (l : Lane) (x : Slot), t.dischargeSlot l x = t.setDischarge (t.dischargeSlot l x).discharge := by
    intro t l x
    simp only [State.dischargeSlot]
    split <;> rfl
  have all : ∀ (ls : List Lane) (t : State),
      ls.foldl (fun t l => t.dischargeSlot l (r.lane l)) t =
        t.setDischarge (ls.foldl (fun t l => t.dischargeSlot l (r.lane l)) t).discharge := by
    intro ls
    induction ls with
    | nil => intro t; rfl
    | cons l ls ih => intro t; rw [List.foldl_cons, ih, one]; rfl
  simp only [State.dischargeRow]
  rw [all]
  split <;> rfl

/-- A mark of the advance moves the track and the notices alone. -/
theorem State.markAt_eq (s : State) (q : Nat) (l : Lane) (k : MarkKind) (f : CardRecord → Bool) (d : Bool) :
    s.markAt q l k f d =
      (s.setTrack (s.markAt q l k f d).track).setNotices (s.markAt q l k f d).notices := by
  unfold State.markAt
  split
  · split
    · simp only []
      split <;> rfl
    · rfl
  · rfl

/-- The deadlines of one slot move the track and the notices alone. -/
theorem State.deadlinesAt_eq (s : State) (q : Nat) (l : Lane) :
    s.deadlinesAt q l = (s.setTrack (s.deadlinesAt q l).track).setNotices (s.deadlinesAt q l).notices := by
  have h (b : Prop) [Decidable b] (t : State) (k : MarkKind) (f : CardRecord → Bool) :
      (if b then t.markAt q l k f true else t) =
        (t.setTrack (if b then t.markAt q l k f true else t).track).setNotices
          (if b then t.markAt q l k f true else t).notices := by
    split
    · exact t.markAt_eq q l k f true
    · rfl
  simp only [State.deadlinesAt]
  rw [h, h, h]
  rfl

/-! ## The track -/

/-- A slot reads as what was put there. -/
theorem slotAt_putSlot_self (rows : List Row) (q : Nat) (l : Lane) (x : Slot) (h : q < rows.length) :
    slotAt (putSlot rows q l x) q l = x := by
  simp only [slotAt, putSlot, rowAt, List.getD_eq_getElem?_getD]
  rw [List.getElem?_set_self h]
  cases l <;> rfl

/-- Putting a slot leaves every other slot as it was. -/
theorem slotAt_putSlot_other (rows : List Row) (q q' : Nat) (l l' : Lane) (x : Slot) (h : q ≠ q' ∨ l ≠ l') :
    slotAt (putSlot rows q l x) q' l' = slotAt rows q' l' := by
  simp only [slotAt, putSlot, rowAt, List.getD_eq_getElem?_getD]
  by_cases hq : q = q'
  · subst hq
    have hl : l ≠ l' := by
      rcases h with h | h
      · exact absurd rfl h
      · exact h
    by_cases hb : q < rows.length
    · rw [List.getElem?_set_self hb]
      revert hl
      cases l <;> cases l' <;> intro hl <;> first | rfl | exact absurd rfl hl
    · rw [List.set_eq_of_length_le (by omega)]
  · rw [List.getElem?_set_ne hq]

/-- Putting a slot keeps the number of positions. -/
@[simp] theorem putSlot_length (rows : List Row) (q : Nat) (l : Lane) (x : Slot) :
    (putSlot rows q l x).length = rows.length := by simp [putSlot]

/-- What a search in one lane finds stands there, with the serial sought. -/
theorem findInLane_some {n : Serial} {q : Nat} {r : Row} {l : Lane} {f : Found} (h : findInLane n q r l = some f) :
    f.position = q ∧ f.lane = l ∧ f.card.serial = n ∧ r.lane l = .record f.card := by
  unfold findInLane at h
  split at h
  · next c hc =>
    split at h
    · next hs =>
      cases h
      refine ⟨rfl, rfl, hs, ?_⟩
      revert hc
      cases r.lane l <;> simp [Slot.card]
    · cases h
  · cases h

/-- What a search finds stands in the rows searched, with the serial sought. -/
theorem findFrom_some {n : Serial} {rows : List Row} : ∀ {q : Nat} {f : Found}, findFrom n q rows = some f →
    q ≤ f.position ∧ f.position < q + rows.length ∧ f.card.serial = n ∧
      slotAt rows (f.position - q) f.lane = .record f.card := by
  induction rows with
  | nil => intro q f h; cases h
  | cons r rest ih =>
    intro q f h
    unfold findFrom at h
    split at h
    · next g hg =>
      cases h
      obtain ⟨l, -, hl⟩ := List.exists_of_findSome?_eq_some hg
      obtain ⟨h1, h2, h3, h4⟩ := findInLane_some hl
      subst h1 h2
      refine ⟨Nat.le_refl _, by simp, h3, ?_⟩
      simpa [slotAt, rowAt] using h4
    · obtain ⟨h1, h2, h3, h4⟩ := ih h
      refine ⟨by omega, by simp only [List.length_cons]; omega, h3, ?_⟩
      have e : f.position - q = (f.position - (q + 1)) + 1 := by omega
      rw [e]
      simpa [slotAt, rowAt] using h4

/-- The record a serial names stands in the track where it was found. -/
theorem State.findCard_some {s : State} {n : Serial} {f : Found} (h : s.findCard n = some f) :
    f.position < s.track.rows.length ∧ f.card.serial = n ∧
      slotAt s.track.rows f.position f.lane = .record f.card := by
  obtain ⟨-, h2, h3, h4⟩ := findFrom_some h
  exact ⟨by omega, h3, h4⟩

/-! ## Marks, counts and notices -/

/-- The three answers of the marking procedure, each with its effect (02 R27). -/
theorem CardRecord.addMark_cases (c : CardRecord) (k : MarkKind) :
    (k ∈ c.marks ∧ c.addMark k = (c, .heldAlready)) ∨
    (k ∉ c.marks ∧ c.marks.length < 6 ∧ c.addMark k = ({ c with marks := c.marks ++ [k] }, .appended)) ∨
    (k ∉ c.marks ∧ 6 ≤ c.marks.length ∧ c.addMark k = ({ c with overflow := true }, .overflowed)) := by
  unfold CardRecord.addMark
  by_cases h : k ∈ c.marks
  · exact .inl ⟨h, if_pos h⟩
  · by_cases h6 : c.marks.length < 6
    · exact .inr (.inl ⟨h, h6, by rw [if_neg h, if_pos h6]⟩)
    · exact .inr (.inr ⟨h, by omega, by rw [if_neg h, if_neg h6]⟩)

/-- A mark changes the marks list and the overflow indicator alone. -/
theorem CardRecord.addMark_fields (c : CardRecord) (k : MarkKind) :
    (c.addMark k).1.serial = c.serial ∧ (c.addMark k).1.recipe = c.recipe ∧ (c.addMark k).1.fill = c.fill ∧
    (c.addMark k).1.place = c.place ∧ (c.addMark k).1.sealPart = c.sealPart ∧ (c.addMark k).1.vision = c.vision := by
  rcases c.addMark_cases k with ⟨-, h⟩ | ⟨-, -, h⟩ | ⟨-, -, h⟩ <;> rw [h] <;> simp

/-- A held count is the sum or its largest value. -/
theorem satAdd_toNat (k : BitVec 32) (n : Nat) : (satAdd k n).toNat = min (k.toNat + n) countMax := by
  unfold satAdd
  rw [BitVec.toNat_ofNat]
  apply Nat.mod_eq_of_lt
  have : min (k.toNat + n) countMax ≤ 4294967295 := Nat.min_le_right _ _
  omega

/-- What an event does to the queue (10 R173). -/
theorem NoticeUnit.push_cases (q : NoticeUnit) (mask : BitVec 8) (n : Notice) :
    (mask.getLsbD n.flag.bit = false ∧ q.push mask n = q.setFlag n.flag) ∨
    (mask.getLsbD n.flag.bit = true ∧ q.queue.length < 32 ∧
      q.push mask n = { q.setFlag n.flag with
        queue := q.queue ++ [(q.nextNumber, n)], nextNumber := q.nextNumber + 1#8 }) ∨
    (mask.getLsbD n.flag.bit = true ∧ 32 ≤ q.queue.length ∧
      q.push mask n = ({ q.setFlag n.flag with overflow := true }).setFlag .queueOverflow) := by
  unfold NoticeUnit.push
  by_cases h : mask.getLsbD n.flag.bit = true
  · by_cases hl : q.queue.length < 32
    · exact .inr (.inl ⟨h, hl, by simp [h, hl, NoticeUnit.setFlag]⟩)
    · exact .inr (.inr ⟨h, by omega, by simp [h, hl, NoticeUnit.setFlag]⟩)
  · exact .inl ⟨by simpa using h, by simp [h]⟩

/-! ## Requests -/

/-- A frame not heard, a length that does not fit, or the rule's effect and its reply (10 R170). -/
theorem serve_cases (i : Instr) (kind : Byte) (p : List Byte) (s : State) (rule : State → Served) :
    (s.hears i = false ∧ serve i kind p s rule = .next s) ∨
    (s.hears i = true ∧ fitsKind kind p = false ∧ serve i kind p s rule = .next (s.afterReply kind [15#8])) ∨
    (s.hears i = true ∧ fitsKind kind p = true ∧
      serve i kind p s rule = .next ((rule s.frameTaken).1.answer kind (rule s.frameTaken).2)) := by
  unfold serve
  cases h : s.hears i
  · exact .inl ⟨rfl, rfl⟩
  · cases hf : fitsKind kind p
    · exact .inr (.inl ⟨rfl, rfl, rfl⟩)
    · exact .inr (.inr ⟨rfl, rfl, rfl⟩)

/-- The same of a request that may be broadcast (10 R169). -/
theorem serveTo_cases (dest : Dest) (i : Instr) (kind : Byte) (p : List Byte) (s : State) (rule : State → Served) :
    (dest = .unicast ∧ serveTo dest i kind p s rule = serve i kind p s rule) ∨
    (dest = .broadcast ∧ s.hears i = false ∧ serveTo dest i kind p s rule = .next s) ∨
    (dest = .broadcast ∧ s.hears i = true ∧ fitsKind kind p = false ∧
      serveTo dest i kind p s rule = .next s.afterFrame) ∨
    (dest = .broadcast ∧ s.hears i = true ∧ fitsKind kind p = true ∧
      serveTo dest i kind p s rule = .next (rule s.frameTaken).1) := by
  cases dest
  · exact .inl ⟨rfl, rfl⟩
  · refine .inr ?_
    unfold serveTo
    cases h : s.hears i
    · exact .inl ⟨rfl, rfl, rfl⟩
    · cases hf : fitsKind kind p
      · exact .inr (.inl ⟨rfl, rfl, rfl, rfl⟩)
      · exact .inr (.inr ⟨rfl, rfl, rfl, rfl⟩)

/-- A frame is heard only from ARMED, or as the complete frame the receiver holds (10 R167, R168). -/
theorem State.hears_receiver {s : State} {i : Instr} (h : s.hears i = true) :
    s.link.receiver = .armed ∨ (s.link.receiver = .frame ∧ frameComplete s.link.buffer = true) := by
  unfold State.hears LinkUnit.heldFrame at h
  split at h
  · rename_i f hf
    split at hf
    · rename_i hc
      exact .inr hc
    · cases hf
  · simp at h
    exact .inl h.2

/-- A request about the track taken within an index event is the command that it is by itself. -/
theorem takeTrackRequest_eq (r : TrackRequest) (s : State) : takeTrackRequest r s = exec r.instr s := by
  cases r <;> rfl

/-- `t` is `s` but for slots of the track and the Link Port. -/
def State.slotsOnly (s t : State) : Prop :=
  { t with track := s.track, link := s.link } = s ∧ { t.track with rows := s.track.rows } = s.track

/-- A served request does no more than its rule, where that changes slots and the Link Port alone. -/
theorem serve_slotsOnly (i : Instr) (kind : Byte) (p : List Byte) (s : State) (rule : State → Served)
    (h : ∀ u : State, u.slotsOnly (rule u).1) :
    ∃ t, serve i kind p s rule = .next t ∧ s.slotsOnly t := by
  rcases serve_cases i kind p s rule with ⟨-, e⟩ | ⟨-, -, e⟩ | ⟨-, -, e⟩
  · exact ⟨s, e, rfl, rfl⟩
  · exact ⟨_, e, rfl, rfl⟩
  · obtain ⟨h1, h2⟩ := h s.frameTaken
    exact ⟨_, e, congrArg (fun u : State => { u with link := s.link }) h1, h2⟩

/-- What a request about the track can do: it answers, and changes nothing but slots and the Link Port. -/
theorem takeTrackRequest_frame (r : TrackRequest) (s : State) :
    ∃ t, takeTrackRequest r s = .next t ∧ s.slotsOnly t := by
  cases r <;>
    simp only [takeTrackRequest, execReportFill, execReportPlace, execReportVision, execLookup, execMarkCard,
      execMarkWindow, execReadWindow] <;>
    (apply serve_slotsOnly
     intro u
     repeat' split
     all_goals exact ⟨rfl, rfl⟩)

end Sys2Proof.Machine
end

