-- ==== Sys2Proof/Laws/PerInstr.lean ====
section
/-! SUPPORT. One statement about each command as syntax: a request is the one its destination, kind and payload
spell. -/

namespace Sys2Proof.Laws.RequestFrame

/-- The destination, kind byte and payload of a request determine it (11 R187). -/
def Statement (i : Instr) : Prop :=
  ∀ dest kind p, requestParts i = some (dest, kind, p) → requestOf dest kind p = some i

/-- A request whose parts spell it. -/
theorem of_parts {i : Instr} {dest : Dest} {kind : Byte} {p : List Byte}
    (h : requestParts i = some (dest, kind, p)) (hi : requestOf dest kind p = some i) : Statement i := by
  intro dest' kind' p' h'
  rw [h] at h'
  cases h'
  exact hi

/-- A command that is no request. -/
theorem of_none {i : Instr} (h : requestParts i = none) : Statement i := by
  intro dest kind p h'
  rw [h] at h'
  cases h'

theorem identify (p : List Byte) : Statement (.identify p) := of_parts rfl rfl
theorem status (p : List Byte) : Statement (.status p) := of_parts rfl rfl
theorem clearFlags (p : List Byte) : Statement (.clearFlags p) := of_parts rfl rfl
theorem setNoticeMask (p : List Byte) : Statement (.setNoticeMask p) := of_parts rfl rfl
theorem fetchNotice (p : List Byte) : Statement (.fetchNotice p) := of_parts rfl rfl
theorem configureLine (p : List Byte) : Statement (.configureLine p) := of_parts rfl rfl
theorem readLine (p : List Byte) : Statement (.readLine p) := of_parts rfl rfl
theorem writeRecipe (p : List Byte) : Statement (.writeRecipe p) := of_parts rfl rfl
theorem readRecipe (p : List Byte) : Statement (.readRecipe p) := of_parts rfl rfl
theorem assignRecipe (p : List Byte) : Statement (.assignRecipe p) := of_parts rfl rfl
theorem writeRule (p : List Byte) : Statement (.writeRule p) := of_parts rfl rfl
theorem readRule (p : List Byte) : Statement (.readRule p) := of_parts rfl rfl
theorem advertiseGrades (p : List Byte) : Statement (.advertiseGrades p) := of_parts rfl rfl
theorem restoreGrade (p : List Byte) : Statement (.restoreGrade p) := of_parts rfl rfl
theorem start (p : List Byte) : Statement (.start p) := of_parts rfl rfl
theorem stop (dest : Dest) (p : List Byte) : Statement (.stop dest p) := of_parts rfl rfl
theorem resume (p : List Byte) : Statement (.resume p) := of_parts rfl rfl
theorem softReset (dest : Dest) (p : List Byte) : Statement (.softReset dest p) := of_parts rfl rfl
theorem reportFill (p : List Byte) : Statement (.reportFill p) := of_parts rfl rfl
theorem reportPlace (p : List Byte) : Statement (.reportPlace p) := of_parts rfl rfl
theorem reportVision (p : List Byte) : Statement (.reportVision p) := of_parts rfl rfl
theorem lookup (p : List Byte) : Statement (.lookup p) := of_parts rfl rfl
theorem markCard (p : List Byte) : Statement (.markCard p) := of_parts rfl rfl
theorem setWindow (p : List Byte) : Statement (.setWindow p) := of_parts rfl rfl
theorem markWindow (p : List Byte) : Statement (.markWindow p) := of_parts rfl rfl
theorem readWindow (p : List Byte) : Statement (.readWindow p) := of_parts rfl rfl
theorem nextChunk (p : List Byte) : Statement (.nextChunk p) := of_parts rfl rfl
theorem abort (p : List Byte) : Statement (.abort p) := of_parts rfl rfl
theorem setReturnSize (p : List Byte) : Statement (.setReturnSize p) := of_parts rfl rfl
theorem latchCounts (dest : Dest) (p : List Byte) : Statement (.latchCounts dest p) := of_parts rfl rfl
theorem readCounts (p : List Byte) : Statement (.readCounts p) := of_parts rfl rfl
theorem clearCounts (p : List Byte) : Statement (.clearCounts p) := of_parts rfl rfl
theorem storeSettings (p : List Byte) : Statement (.storeSettings p) := of_parts rfl rfl
theorem recallSettings (p : List Byte) : Statement (.recallSettings p) := of_parts rfl rfl
theorem unknownKind (kind : Byte) : Statement (.unknownKind kind) := of_none rfl
theorem frameCrcDiscard : Statement .frameCrcDiscard := of_none rfl
theorem foreignFrame : Statement .foreignFrame := of_none rfl
theorem broadcastIgnored : Statement .broadcastIgnored := of_none rfl
theorem frameOverrunDiscard (b : Byte) : Statement (.frameOverrunDiscard b) := of_none rfl
theorem lineIdleArmed : Statement .lineIdleArmed := of_none rfl
theorem frameGapTimeout : Statement .frameGapTimeout := of_none rfl
theorem replyAbandoned (b : Byte) : Statement (.replyAbandoned b) := of_none rfl
theorem replySent : Statement .replySent := of_none rfl
theorem indexEvent (edge : IndexEdge) : Statement (.indexEvent edge) := of_none rfl
theorem warnEdge (after : Nat) (level : Bool) : Statement (.warnEdge after level) := of_none rfl
theorem settleExpiry : Statement .settleExpiry := of_none rfl
theorem closedConfirmation (after : Nat) (sw : Switches) : Statement (.closedConfirmation after sw) := of_none rfl
theorem closeTimeout : Statement .closeTimeout := of_none rfl
theorem openConfirmation (after : Nat) (sw : Switches) : Statement (.openConfirmation after sw) := of_none rfl
theorem openTimeout : Statement .openTimeout := of_none rfl
theorem samplingTick (codes : Quad (BitVec 12)) (px : BitVec 10) : Statement (.samplingTick codes px) := of_none rfl
theorem predictedDeadline : Statement .predictedDeadline := of_none rfl
theorem stall : Statement .stall := of_none rfl
theorem restoreIdleSignal : Statement .restoreIdleSignal := of_none rfl
theorem primeEnd : Statement .primeEnd := of_none rfl
theorem flapDue (o : GateOutput) : Statement (.flapDue o) := of_none rfl
theorem flapPulseEnd (o : GateOutput) : Statement (.flapPulseEnd o) := of_none rfl
theorem storeComplete : Statement .storeComplete := of_none rfl
theorem powerOn : Statement .powerOn := of_none rfl
theorem powerLoss : Statement .powerLoss := of_none rfl
theorem pinReset : Statement .pinReset := of_none rfl
theorem resetRelease : Statement .resetRelease := of_none rfl
theorem settingsLoad (address : BitVec 5) (rate : BitVec 2) : Statement (.settingsLoad address rate) := of_none rfl
theorem linkByteReceived (b : Byte) : Statement (.linkByteReceived b) := of_none rfl
theorem replyBegin : Statement .replyBegin := of_none rfl

end Sys2Proof.Laws.RequestFrame
end

