-- ==== Sys2Proof/Tests/Slice0.lean ====
section
/-! SUPPORT. The author's own tests: ill-formed commands refused, frames worked out by hand, the manual's worked
values, one step of each command on a small state, and a witness for the hypotheses of each statement. -/

set_option maxRecDepth 8000

namespace Sys2Proof.Tests

open Sys2Proof.Machine

/-! ## Small states -/

/-- Recipe 3 of the worked case (04 section 4.7). -/
def recipe3 : Recipe := ⟨true, 560, 400, 7000, 8000, 12000, 20, 120, 4, 20, 0xF#4⟩

/-- The default settings with lanes A and B enabled and every recipe valid. -/
def settings2 : Settings :=
  { defaultSettings with
    line := { defaultLine with lanes := 0x3#4 }
    recipes := Vector.replicate 16 recipe3 }

/-- The reset state after an idle line: the receiver takes a frame (10 R167). -/
def listening : State := { State.reset with link := { State.reset.link with receiver := .armed } }

/-- IDLE, ready to start. -/
def ready : State := { listening with settings := settings2 }

/-- The same amid an incomplete frame. -/
def midFrame : State := { ready with link := { ready.link with receiver := .frame, buffer := [0xA5#8, 31#8, 2#8] } }

/-- STARTING, its prime to end at 200 ms. -/
def priming : State := { ready with mode := ⟨.starting, .none, some 200, false⟩ }

/-- A card with a serial and no parts. -/
def card (n : Serial) : CardRecord := ⟨n, 0, none, none, none, none, [], false⟩

/-- RUN, with card 7 at `p_seal` in lane A. -/
def running : State :=
  { ready with
    mode := ⟨.run, .none, none, true⟩
    track := ⟨putSlot (unknownTrack 11) 5 .a (.record (card 7)), 8#16, 100#32, ⟨0, 11, 0, 3⟩⟩ }

/-- HALTED after an index on the closed press. -/
def halted : State := { running with mode := ⟨.halted, .indexClosed, none, false⟩ }

/-- RUN with a settle that runs out at 40 ms. -/
def settling : State := { running with press := ⟨.settling, false, some 40, none, none, none, 0, 9#32⟩ }

/-- Card 7 as a participating lane. -/
def lane7 : StrokeLane := ⟨.a, 7#16, .z0, 560, 400, 7000, 8000, 12000, 20, 120, false, 7900⟩

/-- RUN with the stroke on card 7 in DWELL, 30 samples of 60 taken. -/
def dwelling : State :=
  { running with
    track := { running.track with
      rows := putSlot running.track.rows 5 .a (.record { card 7 with sealPart := some .pressing }) }
    pins := ⟨⟨false, true⟩, false⟩
    press := ⟨.dwell, true, none, none, none, some ⟨10#32, false, 30, 60, [lane7]⟩, 0, 10#32⟩ }

/-- The same stroke in CLOSING, the close timer to run out at 150 ms, after two close timeouts. -/
def closing : State :=
  { dwelling with
    pins := ⟨⟨false, false⟩, false⟩
    press := ⟨.closing, true, none, some 150, none, some ⟨10#32, false, 0, 60, [{ lane7 with dose := 0 }]⟩, 2, 10#32⟩ }

/-- RUN with the press RELEASING until 200 ms. -/
def releasing : State :=
  { running with
    pins := ⟨⟨false, false⟩, false⟩
    press := ⟨.releasing, false, none, none, some 200, none, 0, 10#32⟩ }

/-- RUN, LOCKED at G1 on an index at 0, with the deadline at 890 ms. -/
def locked : State :=
  { running with
    now := 1000
    rhythm := ⟨.locked, some 0, 1000, 0, 0, false, 0, none, false, some 890⟩ }

/-- A store in progress. -/
def storing : State := { ready with store := ⟨none, false, true⟩ }

/-- What a command leaves. -/
def after (i : Instr) (s : State) : State :=
  match exec i s with
  | .next t => t
  | .fault _ => s
  | .refused _ => s

/-- The reply a command prepares. -/
def replyTo (i : Instr) (s : State) : ReplyState := (after i s).link.reply

/-! ## Ill-formed commands are refused -/

theorem test_wf_payload_too_long : (Instr.identify (List.replicate 251 0#8)).wellFormed = false := by decide
theorem test_wf_payload_longest : (Instr.identify (List.replicate 250 0#8)).wellFormed = true := by decide
theorem test_wf_broadcast_length : (Instr.stop .broadcast [0#8]).wellFormed = false := by decide
theorem test_wf_broadcast_fits : (Instr.stop .broadcast []).wellFormed = true := by decide
theorem test_wf_broadcast_kind : wellFormedRequest .broadcast 0x02#8 [] = false := by decide
theorem test_wf_index_request :
    (Instr.indexEvent ⟨0, some (.lookup (List.replicate 251 0#8))⟩).wellFormed = false := by decide
theorem test_wf_kind_known : (Instr.unknownKind 0x02#8).wellFormed = false := by decide
theorem test_wf_kind_unknown : (Instr.unknownKind 0x7F#8).wellFormed = true := by decide

/-! ## Frames, their CRC worked out apart from the model (11 section 11.1) -/

/-- The check value of this CRC over the nine digits. -/
theorem test_crc_nine_digits :
    crc16 [0x31#8, 0x32#8, 0x33#8, 0x34#8, 0x35#8, 0x36#8, 0x37#8, 0x38#8, 0x39#8] = 0x29B1#16 := by decide

/-- STATUS to station 31. -/
def statusFrame : List Byte := [0xA5#8, 0x1F#8, 0x02#8, 0x00#8, 0xC5#8, 0xAC#8]

theorem test_frame_status : judgeFrame 31#8 statusFrame = .status [] := by decide
theorem test_frame_foreign : judgeFrame 5#8 statusFrame = .foreignFrame := by decide
theorem test_frame_bad_crc :
    judgeFrame 31#8 [0xA5#8, 0x1F#8, 0x02#8, 0x00#8, 0xC5#8, 0xAD#8] = .frameCrcDiscard := by decide
theorem test_frame_broadcast_stop :
    judgeFrame 31#8 [0xA5#8, 0x00#8, 0x21#8, 0x00#8, 0xF9#8, 0x4B#8] = .stop .broadcast [] := by decide
theorem test_frame_broadcast_status_ignored :
    judgeFrame 31#8 [0xA5#8, 0x00#8, 0x02#8, 0x00#8, 0xAA#8, 0xFE#8] = .broadcastIgnored := by decide
theorem test_frame_broadcast_length_ignored :
    judgeFrame 31#8 [0xA5#8, 0x00#8, 0x21#8, 0x01#8, 0x00#8, 0x06#8, 0x07#8] = .broadcastIgnored := by decide
theorem test_frame_unknown_kind :
    judgeFrame 31#8 [0xA5#8, 0x1F#8, 0x7F#8, 0x01#8, 0x01#8, 0x9C#8, 0xA0#8] = .unknownKind 0x7F#8 := by decide
theorem test_frame_report_fill :
    judgeFrame 31#8 [0xA5#8, 0x1F#8, 0x30#8, 0x03#8, 0x01#8, 0xA1#8, 0x03#8, 0x6F#8, 0xB9#8] =
      .reportFill [0x01#8, 0xA1#8, 0x03#8] := by decide
theorem test_table_word_gives_none : decodeTableWord 8 0xA5 = none := by decide

/-! ## The manual's worked values -/

/-- The table of 04 R74. -/
theorem test_excess : [excess 720 560, excess 640 560, excess 560 560, excess 1200 560] = [160, 80, 0, 400] := by
  decide
/-- The table of 04 R75. -/
theorem test_factor :
    [410, 400, 100, 1023, 0].map (fun p => pressureFactor p 400) = [262, 256, 64, 512, 0] := by decide
/-- The examples of 04 R76. -/
theorem test_contribution : [contribution 160 262, contribution 80 262, contribution 400 256] = [163, 81, 400] := by
  decide
/-- The table of 06 R107. -/
theorem test_bounds :
    [(1000, 5), (1250, 5), (1667, 5), (2500, 5), (200, 25)].map (fun x => (lowerBound x.1 x.2, upperBound x.1 x.2)) =
      [(950, 1050), (1187, 1312), (1583, 1750), (2375, 2625), (150, 250)] := by decide
/-- The table of 04 R65 at its edges. -/
theorem test_classes :
    [0#12, 39#12, 40#12, 3999#12, 4000#12, 4095#12].map classify =
      [.shorted, .shorted, .valid, .valid, .openCircuit, .openCircuit] := by decide
/-- The table of 05 R88. -/
theorem test_stroke_limits :
    let b : StrokeLane := { lane7 with dwellMax := 90 }
    [strokeLimit [lane7, b] true false 60, strokeLimit [lane7, b] false false 60,
      strokeLimit [lane7, b] false true 60, strokeLimit [{ lane7 with dwellMax := 40 }] false false 60] =
      [90, 60, 90, 40] := by decide
/-- The table of 07 R123. -/
theorem test_advised :
    [fastestFrom 0xF#4 .g1, fastestFrom 0x6#4 .g1, fastestFrom 0x6#4 .g3, fastestFrom 0x5#4 .g2,
      fastestFrom 0x5#4 .g3] = [some .g1, some .g2, some .g3, some .g3, some .g3] := by decide
/-- Ticks 2 and 12 of the example after 04 R70. -/
theorem test_zone_example :
    zoneStep ⟨.healthy, 712#12, 0⟩ 4095#12 = (⟨.faulted, 712#12, 0⟩, some .openCircuit) ∧
      zoneStep ⟨.faulted, 714#12, 7⟩ 713#12 = (⟨.healthy, 713#12, 0⟩, some .recovered) := by decide
/-- The example of 02 section 2.4: seven marks called for, the seventh overflows. -/
theorem test_marks_overflow :
    let c := (card 417).addMarks [.fillShort, .regOffset, .operator, .underbond, .dwellCut, .cadence, .indexClosed]
    c.marks = [.fillShort, .regOffset, .operator, .underbond, .dwellCut, .cadence] ∧ c.overflow = true := by decide
/-- The rules of the example of 08 section 8.2. -/
def rules8 : List Rule :=
  [⟨true, none, none, .holds .underbond, .reject⟩, ⟨true, none, none, .holds .scorch, .reject⟩,
   ⟨true, some 5, none, .holds .cadence, .pass⟩, defaultRule, ⟨true, none, some .d, .none, .sample⟩,
   defaultRule, defaultRule, defaultRule]
/-- The table of that example. -/
theorem test_discharge_table :
    let c (r : Fin 16) (m : List MarkKind) (o : Bool) : CardRecord := { card 600 with recipe := r, marks := m, overflow := o }
    [cardFate rules8 .b (c 5 [.cadence] false), cardFate rules8 .b (c 5 [.cadence, .underbond] false),
      cardFate rules8 .a (c 3 [.cadence] false), cardFate rules8 .a (c 3 [] false),
      cardFate rules8 .b (c 5 [.cadence] true), cardFate rules8 .d (c 3 [] false)] =
      [.pass, .reject, .reject, .pass, .reject, .sample] := by decide
/-- The example of 08 section 8.4: a full slot fires early; a pulse is retriggered. -/
theorem test_flap_examples :
    Flap.give ⟨some 1200, none⟩ 1000 1200 80 = ⟨some 2200, some 1080⟩ ∧
      (Flap.mk none (some 620)).fire 520 500 = ⟨none, some 1020⟩ := by decide
/-- The second case of 05 section 5.8: lane B cut by the deadline. -/
theorem test_cut_stroke :
    let k : StrokeLane := { lane7 with dose := 6399, doseMin := 7000, doseTarget := 8000 }
    k.verdict = .underbond ∧ k.endMarks .predicted true = [.underbond, .dwellCut] := by decide
/-- The table of 02 R25: serials across the wrap. -/
theorem test_serial_wrap :
    let st : Settings := { settings2 with line := { defaultLine with lanes := 0x7#4 } }
    (enterRow st 65534#16).1.map enteredSerial = ⟨some 65534#16, some 65535#16, some 0#16, none⟩ ∧
      (enterRow st 65534#16).2 = 1#16 := by decide

/-! ## One step of each command -/

theorem test_identify : replyTo (.identify []) ready =
    .awaiting ⟨0x81#8, [0#8, 0x3B#8, 1#8, 31#8, 0#8, 4#8, 40#8, 16#8, 8#8]⟩ := by decide
theorem test_status_length : (match replyTo (.status []) running with
    | .awaiting r => r.payload.length
    | .sending _ => 0
    | .none => 0) = 38 := by decide
theorem test_clear_flags_range : replyTo (.clearFlags [0x10#8, 0#8]) ready = .awaiting ⟨0x83#8, [5#8]⟩ := by decide
theorem test_clear_flags : (after (.clearFlags [0#8, 0x80#8]) ready).notices.flags = 0#12 := by decide
theorem test_set_notice_mask : (after (.setNoticeMask [0x0F#8]) ready).settings.noticeMask = 0x0F#8 := by decide
theorem test_fetch_notice : replyTo (.fetchNotice []) listening =
    .awaiting ⟨0x85#8, [0#8, 0#8, 0#8, 0#8, 8#8, 1#8, 1#8]⟩ := by decide
/-- `tol` 40 is clamped to 25. -/
theorem test_configure_line : replyTo (.configureLine [0#8, 0#8, 4#8, 0#8, 40#8]) ready =
      .awaiting ⟨0x90#8, [1#8, 0#8, 0#8, 0#8, 4#8, 0#8]⟩ ∧
    (after (.configureLine [0#8, 0#8, 4#8, 0#8, 40#8]) ready).settings.line.tol = 25 := by decide
/-- `p_seal` 2 fails check 1. -/
theorem test_configure_line_check : replyTo (.configureLine [0#8, 0#8, 0#8, 4#8, 2#8]) ready =
    .awaiting ⟨0x90#8, [12#8, 1#8, 0#8, 0#8, 0#8, 0#8]⟩ := by decide
theorem test_read_line_length : (lineBytes defaultLine).length = 48 := by decide
theorem test_write_recipe_order : replyTo (.writeRecipe ([1#8, 1#8, 2#8, 0x30#8, 1#8, 0x90#8, 0#8, 9#8, 0#8, 8#8, 0#8,
    10#8, 0#8, 1#8, 0#8, 2#8, 4#8, 20#8, 15#8])) ready = .awaiting ⟨0x92#8, [5#8, 3#8]⟩ := by decide
theorem test_write_recipe_in_use : replyTo (.writeRecipe (0#8 :: List.replicate 18 1#8)) running =
    .awaiting ⟨0x92#8, [4#8]⟩ := by decide
theorem test_read_recipe_range : replyTo (.readRecipe [16#8]) priming = .awaiting ⟨0x93#8, [5#8]⟩ := by decide
theorem test_assign_recipe : (after (.assignRecipe [1#8, 5#8]) ready).settings.assigned = ⟨0, 5, 0, 0⟩ := by decide
theorem test_write_rule : (after (.writeRule [2#8, 1#8, 5#8, 4#8, 12#8, 0#8]) running).settings.rules[2] =
    ⟨true, some 5, none, .holds .cadence, .pass⟩ := by decide
theorem test_read_rule : replyTo (.readRule [7#8]) ready =
    .awaiting ⟨0x96#8, [0#8, 7#8, 0#8, 0x10#8, 4#8, 0x10#8, 1#8]⟩ := by decide
theorem test_advertise_empties : (after (.advertiseGrades [0#8]) running).grade.common = 0#4 ∧
    (after (.advertiseGrades [0#8]) running).notices.hasFlag .gradeConflict = true := by decide
theorem test_restore_grade :
    (after (.restoreGrade []) { running with grade := ⟨0xF#4, 0xF#4, .g3, .g3, 2, 1, 1, 2#2⟩ }).grade =
      ⟨0xF#4, 0xF#4, .g1, .g1, 0, 0, 0, 0#2⟩ := by decide
theorem test_start : (after (.start []) ready).mode = ⟨.starting, .none, some 200, false⟩ := by decide
theorem test_start_no_lane : replyTo (.start []) listening = .awaiting ⟨0xA0#8, [12#8, 1#8, 0xFF#8]⟩ := by decide
theorem test_stop_purges : (after (.stop .unicast []) running).discharge.bank.lanes.q0.purged = 1#32 ∧
    (after (.stop .unicast []) running).mode = idleMode := by decide
theorem test_resume : (after (.resume []) halted).mode = ⟨.run, .none, none, true⟩ := by decide
theorem test_resume_fault : replyTo (.resume []) { halted with pins := ⟨⟨false, true⟩, false⟩ } =
    .awaiting ⟨0xA2#8, [13#8]⟩ := by decide
theorem test_soft_reset : (after (.softReset .broadcast []) dwelling).press =
      ⟨.releasing, false, none, none, some 200, none, 0, 10#32⟩ ∧
    (after (.softReset .broadcast []) dwelling).notices = emptyNotices := by decide
theorem test_report_fill_short : replyTo (.reportFill [0#8, 7#8, 3#8]) { running with
    track := { running.track with rows := putSlot (unknownTrack 11) 3 .b (.record (card 7)) } } =
    .awaiting ⟨0xB0#8, [0#8, 1#8, 3#8, 1#8]⟩ := by decide
theorem test_report_fill_late : replyTo (.reportFill [0#8, 7#8, 3#8]) running =
    .awaiting ⟨0xB0#8, [9#8, 0#8, 5#8]⟩ := by decide
theorem test_report_place_early : replyTo (.reportPlace [0#8, 7#8, 1#8, 0#8, 0#8]) { running with
    track := { running.track with rows := putSlot (unknownTrack 11) 1 .b (.record (card 7)) } } =
    .awaiting ⟨0xB1#8, [8#8, 1#8, 1#8]⟩ := by decide
theorem test_report_vision_early : replyTo (.reportVision [0#8, 7#8, 1#8, 0#8]) running =
    .awaiting ⟨0xB2#8, [8#8, 0#8, 5#8]⟩ := by decide
theorem test_lookup : replyTo (.lookup [5#8, 0#8]) running =
    .awaiting ⟨0xB3#8, [0#8, 5#8, 0#8, 0#8, 0#8, 0#8, 100#8, 0#8, 0#8, 7#8, 0#8, 0#8, 0#8, 0#8]⟩ := by decide
theorem test_mark_card : replyTo (.markCard [0#8, 7#8]) running =
    .awaiting ⟨0xB4#8, [0#8, 0#8, 5#8, 1#8]⟩ := by decide
/-- The examples of 02 R41. -/
theorem test_set_window : replyTo (.setWindow [5#8, 45#8, 1#8, 2#8]) ready =
      .awaiting ⟨0xC0#8, [1#8, 5#8, 11#8, 1#8, 2#8]⟩ ∧
    replyTo (.setWindow [14#8, 20#8, 0#8, 3#8]) ready = .awaiting ⟨0xC0#8, [5#8]⟩ := by decide
theorem test_mark_window : replyTo (.markWindow []) running = .awaiting ⟨0xC1#8, [0#8, 1#8, 0#8, 0#8]⟩ := by decide
theorem test_read_window : ((after (.readWindow []) running).link.window.map fun w => (w.entries.length, w.cursor)) =
    some (48, 4) := by decide
theorem test_next_chunk_empty : replyTo (.nextChunk []) running = .awaiting ⟨0xC3#8, [11#8, 0#8]⟩ := by decide
theorem test_abort_none : replyTo (.abort []) running = .awaiting ⟨0xC4#8, [2#8]⟩ := by decide
theorem test_set_return_size : replyTo (.setReturnSize [9#8]) ready = .awaiting ⟨0xC5#8, [1#8, 8#8]⟩ := by decide
theorem test_latch_counts : (after (.latchCounts .broadcast []) running).discharge.snapshot =
    some ⟨zeroBank, 100#32⟩ := by decide
theorem test_read_counts_ends :
    (after (.readCounts []) (after (.latchCounts .broadcast []) running)).discharge.snapshot = none := by decide
theorem test_clear_counts : (after (.clearCounts []) running).discharge.bank.lanes.q0.entered = 1#32 := by decide
theorem test_store_settings : (after (.storeSettings []) ready).store = ⟨none, false, true⟩ := by decide
theorem test_recall_checksum : replyTo (.recallSettings []) ready = .awaiting ⟨0xE1#8, [16#8]⟩ := by decide
theorem test_store_complete : (after .storeComplete storing).store = ⟨some settings2, true, false⟩ := by decide
theorem test_unknown_kind : replyTo (.unknownKind 0x7F#8) ready = .awaiting ⟨0xFF#8, [14#8]⟩ := by decide
theorem test_length : replyTo (.identify [0#8]) ready = .awaiting ⟨0x81#8, [15#8]⟩ := by decide
theorem test_crc_discard : (after .frameCrcDiscard ready).notices.hasFlag .linkError = true := by decide
theorem test_prime_end : (after .primeEnd priming).mode = ⟨.run, .none, none, true⟩ ∧
    (after .primeEnd priming).now = 200 := by decide
theorem test_index_settles : (after (.indexEvent ⟨10, none⟩) running).press.settleDue = some 50 := by decide
theorem test_index_not_sealed : slotAt (after (.indexEvent ⟨10, none⟩) running).track.rows 6 .a =
    .record { card 7 with marks := [.notSealed] } := by decide
theorem test_index_bounce : after (.indexEvent ⟨19, none⟩) { running with rhythm := { running.rhythm with lastEdge := some 0 } } =
    { running with rhythm := { running.rhythm with lastEdge := some 0 }, now := 19 } := by decide
/-- 03 R60 with `p_vision` at `p_seal + 1`: a failing vision report taken between the advance and the press's answer
adds its mark before the stroke's, one taken after the index event adds it after them. -/
theorem test_index_report_between :
    let s : State := { dwelling with settings := { settings2 with line := { settings2.line with pVision := 6 } } }
    let marks (t : State) : Option (List MarkKind) := (t.findCard 7#16).map fun f => f.card.marks
    marks (after (.indexEvent ⟨10, some (.reportVision [0#8, 7#8, 1#8, 0#8])⟩) s) =
        some [.visionFail, .dwellCut, .cadence, .indexClosed] ∧
      marks (after (.reportVision [0#8, 7#8, 1#8, 0#8]) (after (.indexEvent ⟨10, none⟩) s)) =
        some [.dwellCut, .cadence, .indexClosed, .visionFail] := by decide
theorem test_index_locked_short : (after (.indexEvent ⟨0, none⟩) { locked with now := 949 }).rhythm.state = .slipping := by
  decide
theorem test_warn_abandons :
    (after (.warnEdge 5 true) { settling with settings := { settings2 with
      line := { settings2.line with warnInUse := true } } }).press.state = .opened := by decide
theorem test_settle_expiry : (after .settleExpiry settling).press.state = .closing ∧
    ((after .settleExpiry settling).press.stroke.map fun x => (x.number, x.nLimit)) = some (10#32, 60) := by decide
theorem test_closed_confirmation : (after (.closedConfirmation 31 ⟨false, true⟩) closing).press.state = .dwell := by
  decide
theorem test_close_timeout_halts : (after .closeTimeout closing).mode = ⟨.halted, .pressClose, none, false⟩ ∧
    slotAt (after .closeTimeout closing).track.rows 5 .a =
      .record { card 7 with
        sealPart := some (.final .underbond .closeTimeout 0 0)
        marks := [.underbond, .notSealed, .cadence] } := by decide
theorem test_open_confirmation : (after (.openConfirmation 3 ⟨true, false⟩) releasing).press.state = .opened := by decide
theorem test_open_timeout : (after .openTimeout releasing).mode.haltCause = .pressOpen ∧
    (after .openTimeout releasing).press.state = .stuck := by decide
/-- One sample at 720 and 410 brings 7900 to 8063, past the target, with every `dwell_min` met. -/
theorem test_sample_completes :
    slotAt (after (.samplingTick (Quad.const 720#12) 410#10) dwelling).track.rows 5 .a =
      .record { card 7 with sealPart := some (.final .bonded .complete 8063 31), marks := [.cadence] } := by decide
theorem test_deadline_ends_stroke :
    (after .predictedDeadline { dwelling with rhythm := locked.rhythm }).press.stroke = none := by decide
theorem test_stall : (after .stall locked).rhythm.state = .stopped ∧ (after .stall locked).now = 3000 := by decide
theorem test_restore_idle : (after .restoreIdleSignal ready).rhythm.signalGiven = true ∧
    (after .restoreIdleSignal ready).now = 60000 := by decide
/-- Lane A with an action due at 120. -/
def flapped : State := { ready with discharge := { ready.discharge with flaps := ⟨⟨some 120, none⟩, freshFlap, freshFlap, freshFlap⟩ } }
theorem test_flap_due : (after (.flapDue (.flap .a)) flapped).discharge.flaps.q0 = ⟨none, some 200⟩ := by decide
theorem test_flap_pulse_end :
    (after (.flapPulseEnd (.flap .a)) (after (.flapDue (.flap .a)) flapped)).rejLine .a = false := by decide
theorem test_power_on : (after .powerOn running).phase = .loading .powerOn ∧
    (after .powerOn running).mode.interlock = false := by decide
theorem test_power_loss_breaks_store : (after .powerLoss storing).store = ⟨none, false, false⟩ := by decide
theorem test_pin_reset_counts : (after .pinReset running).discharge.bank.lanes.q0.purged = 1#32 := by decide
theorem test_reset_release : (after .resetRelease (after .pinReset running)).phase = .loading .pin := by decide
theorem test_settings_load : (after (.settingsLoad 0#5 2#2) (after .powerOn running)).link.address = 31#8 ∧
    (after (.settingsLoad 0#5 2#2) (after .powerOn running)).notices.queue = [(0#8, .store .lost)] := by decide
theorem test_line_idle : (after .lineIdleArmed State.reset).link.receiver = .armed := by decide
theorem test_byte_starts_frame : (after (.linkByteReceived 0xA5#8) (after .lineIdleArmed State.reset)).link.receiver = .frame := by
  decide
theorem test_gap : (after .frameGapTimeout { ready with link := { ready.link with
    receiver := .frame, buffer := [0xA5#8] } }).notices.hasFlag .linkError = true := by decide
theorem test_overrun : (after (.frameOverrunDiscard 251#8) { ready with link := { ready.link with
    receiver := .frame, buffer := [0xA5#8, 31#8, 2#8] } }).link.receiver = .hunt := by decide
theorem test_reply_begin_and_sent :
    (after .replyBegin (after (.identify []) ready)).link.driving = true ∧
      (after .replySent (after .replyBegin (after (.identify []) ready))).link.receiver = .hunt := by decide
theorem test_reply_abandoned : (after (.replyAbandoned 0xA5#8) (after (.identify []) ready)).link.reply = .none := by decide
theorem test_foreign_frame : (after .foreignFrame ready).link.receiver = .armed := by decide
theorem test_broadcast_ignored : replyTo .broadcastIgnored ready = .none := by decide

/-- In HUNT and amid an incomplete frame no request is heard (10 R167). -/
theorem test_hunt_hears_none : replyTo (.identify []) State.reset = .none ∧
    (after (.stop .unicast []) { running with link := midFrame.link }).mode.mode = .run := by decide

/-! ## Witnesses: a state and operands for the hypotheses of each statement, clause by clause -/

theorem witness_StepRunsFrontCommand :
    ({ ready with pending := [.stall, .stall] } : State).pending = .stall :: [.stall] ∧ ready.pending = [] := by decide

theorem witness_RequestFramesDecode :
    (1 ≤ (31#8).toNat ∧ (31#8).toNat ≤ 31 ∧ (Instr.status []).wellFormed = true ∧
      encodeRequest 31#8 (.status []) = some statusFrame) ∧
    (1 ≤ (1#8).toNat ∧ (Instr.stop .broadcast []).wellFormed = true ∧
      encodeRequest 1#8 (.stop .broadcast []) = some [0xA5#8, 0x00#8, 0x21#8, 0x00#8, 0xF9#8, 0x4B#8]) ∧
    (LinkUnit.mk .armed [] .none none 31#8 0#2).receiver = .armed := by decide

theorem witness_FramesJudgedByAddress :
    (31#8 : Byte) ≠ 0#8 ∧ (List.replicate 250 0#8).length ≤ 250 ∧ (5#8 : Byte) ≠ 31#8 ∧ (5#8 : Byte) ≠ 0#8 ∧
    requestOf .unicast 0x7F#8 [] = none ∧ (0x22#8 : Byte) ≠ 0x21#8 ∧ fitsKind 0x21#8 [0#8] = false ∧
    (0#16 : BitVec 16) ≠ crc16 [0x1F#8, 0x02#8, 0x00#8] := by decide

theorem witness_LineRecordRoundTrips : defaultLine.inRange := by
  unfold LineConfig.inRange
  decide

theorem witness_ReceiverFollowsLine :
    let frame (b : List Byte) : State := { ready with link := { ready.link with receiver := .frame, buffer := b } }
    ready.phase = .running ∧ ready.link.reply = .none ∧ State.reset.phase = .running ∧
    State.reset.link.receiver = .hunt ∧ ready.link.receiver = .armed ∧
    frameComplete (frame statusFrame).link.buffer = true ∧
    ((frame [0xA5#8, 31#8, 2#8]).link.buffer.length = 3 ∧ 250 < (251#8).toNat) ∧
    (frameComplete (frame [0xA5#8, 31#8, 2#8]).link.buffer = false ∧ ¬250 < (250#8).toNat) ∧
    (after .replyBegin (after (.identify []) ready)).link.reply = .sending ⟨0x81#8,
      [0#8, 0x3B#8, 1#8, 31#8, 0#8, 4#8, 40#8, 16#8, 8#8]⟩ := by decide

theorem witness_JudgedFramesAnswered :
    ready.hears .frameCrcDiscard = true ∧ ready.hears .foreignFrame = true ∧
    ready.hears .broadcastIgnored = true ∧ ready.hears (.unknownKind 0xFF#8) = true ∧
    requestOf .unicast 0xFF#8 [] = none ∧ State.reset.link.receiver = .hunt ∧
    midFrame.link.receiver = .frame ∧ frameComplete midFrame.link.buffer = false := by decide

theorem witness_RepliesBeginAndEnd :
    (after .foreignFrame (after (.identify []) ready)).link.reply = .none ∧
    (after (.identify []) ready).link.reply = .awaiting ⟨0x81#8,
      [0#8, 0x3B#8, 1#8, 31#8, 0#8, 4#8, 40#8, 16#8, 8#8]⟩ ∧
    (after (.identify []) ready).phase = .running ∧ (after (.identify []) ready).link.receiver = .armed := by decide

theorem witness_WrongLengthIsRefused :
    requestParts (.stop .broadcast [0#8]) = some (.broadcast, 0x21#8, [0#8]) ∧
    ready.hears (.stop .broadcast [0#8]) = true ∧ fitsKind 0x21#8 [0#8] = false ∧
    requestParts (.identify [0#8]) = some (.unicast, 0x01#8, [0#8]) ∧ ready.hears (.identify [0#8]) = true ∧
    fitsKind 0x01#8 [0#8] = false ∧
    ({ ready with phase := .off } : State).hears (.identify [0#8]) = false ∧
    State.reset.link.receiver = .hunt ∧
    (midFrame.link.receiver = .frame ∧ frameComplete midFrame.link.buffer = false) := by decide

theorem witness_BusyRequests :
    requestParts (.readRecipe [15#8]) = some (.unicast, 0x13#8, [15#8]) ∧ fitsKind 0x13#8 [15#8] = true ∧
    byteAt [15#8] 0 ≤ 15 ∧ priming.hears (.readRecipe [15#8]) = true ∧ priming.mode.mode = .starting ∧
    requestParts (.assignRecipe [3#8, 15#8]) = some (.unicast, 0x14#8, [3#8, 15#8]) ∧
    byteAt [3#8, 15#8] 0 ≤ 3 ∧ (15 : Fin 16).val = byteAt [3#8, 15#8] 1 ∧ (storing.settings.recipe 15).valid = true ∧
    storing.hears (.assignRecipe [3#8, 15#8]) = true ∧ storing.store.busy = true ∧
    fitsKind 0x15#8 [7#8, 0#8, 0#8, 0#8, 0#8, 0#8] = true ∧ byteAt [7#8, 0#8, 0#8, 0#8, 0#8, 0#8] 0 ≤ 7 := by decide

/-- The values judged before the mode, the first beyond each range, and the broadcasts refused in silence. -/
theorem witness_BusyRequests_judged_first :
    let recipe16 : List Byte := 16#8 :: List.replicate 18 0#8
    let rule8 : List Byte := 8#8 :: List.replicate 5 0#8
    let unset : State := { priming with settings := State.reset.settings }
    (priming.hears (.writeRecipe recipe16) = true ∧ fitsKind 0x12#8 recipe16 = true ∧ 15 < byteAt recipe16 0) ∧
    (priming.hears (.readRecipe [16#8]) = true ∧ fitsKind 0x13#8 [16#8] = true ∧ 15 < byteAt [16#8] 0) ∧
    (storing.hears (.writeRule rule8) = true ∧ fitsKind 0x15#8 rule8 = true ∧ 7 < byteAt rule8 0) ∧
    (priming.hears (.readRule [8#8]) = true ∧ fitsKind 0x16#8 [8#8] = true ∧ 7 < byteAt [8#8] 0) ∧
    (storing.hears (.assignRecipe [4#8, 0#8]) = true ∧ fitsKind 0x14#8 [4#8, 0#8] = true ∧ 3 < byteAt [4#8, 0#8] 0 ∧
      15 < byteAt [3#8, 16#8] 1 ∧ unset.hears (.assignRecipe [3#8, 15#8]) = true ∧
      (unset.settings.recipe 15).valid = false) ∧
    (priming.hears (.softReset .broadcast []) = true ∧ priming.mode.mode = .starting ∧
      storing.hears (.softReset .broadcast []) = true ∧ storing.store.busy = true ∧
      priming.hears (.latchCounts .broadcast []) = true) := by decide

theorem witness_IdentifyStatusAndFetch :
    ready.hears (.identify []) = true ∧ ready.hears (.status []) = true ∧ ready.hears (.fetchNotice []) = true ∧
    ready.notices.queue = [(0#8, .store .lost)] ∧
    (after (.fetchNotice []) ready).notices.queue = [] := by decide

theorem witness_FlagMaskAndSizeRequests :
    ready.hears (.clearFlags [15#8, 255#8]) = true ∧ (15#8).toNat < 16 ∧ ready.hears (.clearFlags [16#8, 0#8]) = true ∧
    16 ≤ (16#8).toNat ∧ ready.mode.mode ≠ .starting ∧ ready.store.busy = false ∧
    ready.hears (.setNoticeMask [0#8]) = true ∧ ready.hears (.setReturnSize [1#8]) = true ∧
    ready.hears (.setReturnSize [8#8]) = true ∧ ready.hears (.setReturnSize [0#8]) = true ∧
    ready.hears (.setReturnSize [9#8]) = true ∧ 8 < (9#8).toNat := by decide

theorem witness_NoticeQueueTakesEvents :
    let full : NoticeUnit := ⟨List.replicate 32 (0#8, .store .lost), false, 32#8, 0#12⟩
    (0xFF#8).getLsbD (Notice.store .lost).flag.bit = true ∧ (0x7F#8).getLsbD (Notice.store .lost).flag.bit = false ∧
    ready.notices.queue.length < 32 ∧ 32 ≤ full.queue.length ∧
    EventFlag.advance ≠ (Notice.store .lost).flag ∧ EventFlag.advance ≠ .queueOverflow := by decide

theorem witness_LineConsistencyCheck :
    lineCheck defaultLine = 0 ∧ lineCheck { defaultLine with pSeal := 2 } = 1 ∧
    lineCheck { defaultLine with dFill := 6 } = 2 ∧ lineCheck { defaultLine with dPlace := 2 } = 3 ∧
    lineCheck { defaultLine with dVision := 8 } = 4 ∧ lineCheck { defaultLine with periods := ⟨1000, 1000, 1667, 2500⟩ } = 5 ∧
    lineCheck { defaultLine with recoverRun := 19 } = 6 := by decide

/-- IDLE, LOCKED at G1, 2800 ms after the last index. -/
def idleLocked : State := { ready with now := 2800, rhythm := locked.rhythm }

/-- The grades of the default settings, and of the small settings, as IDLE has them. -/
theorem idle_gradeLegal : ready.gradeLegal ∧ idleLocked.gradeLegal := by
  constructor <;> unfold State.gradeLegal <;> decide

/-- The clauses about what the request hands on: a change of G1's period that leaves no stall and one that leaves
one, a held grade, and the restore-idle timer short of its limit and at it. -/
theorem witness_ConfigureLineJudged_handed_on :
    let periods (hi lo : Byte) : List Byte := [hi, lo, 4#8, 0xE2#8, 6#8, 0x83#8, 9#8, 0xC4#8]
    let p (hi lo : Byte) : List Byte := [0#8, 0#8, 2#8, 0#8] ++ periods hi lo
    let built (hi lo : Byte) : LineConfig := (buildCandidate (beNat ((p hi lo).take 4)) ((p hi lo).drop 4) defaultLine).line
    idleLocked.hears (.configureLine (p 3#8 0xB6#8)) = true ∧ fitsKind 0x10#8 (p 3#8 0xB6#8) = true ∧
    lineCheck (buildCandidate 512 (periods 3#8 0xB6#8) idleLocked.settings.line).line = 0 ∧
    idleLocked.rhythm.state = .locked ∧ idleLocked.grade.floor = .g1 ∧
    (built 3#8 0xB6#8).periods.q0 = 950 ∧ idleLocked.stallTimer < 3 * 950 ∧
    (built 3#8 0x84#8).periods.q0 = 900 ∧ 3 * 900 ≤ idleLocked.stallTimer ∧
    (built 3#8 0xE8#8).periods.q0 = idleLocked.expectedPeriod ∧
    fastestFrom idleLocked.grade.common .g1 = some idleLocked.grade.advised ∧
    ready.rhythm.state = .stopped ∧ ready.rhythm.signalGiven = false ∧ ready.rhythm.restoreStart = some 0 ∧
    ready.now < 1000 * ready.settings.line.restoreIdle ∧
    1000 * ready.settings.line.restoreIdle ≤ ({ ready with now := 60000 } : State).now := by decide

theorem witness_ConfigureLineJudged :
    let tol : List Byte := [0#8, 0#8, 4#8, 0#8, 25#8]
    let seal2 : List Byte := [0#8, 0#8, 0#8, 4#8, 2#8]
    let beyond : List Byte := [0x10#8, 0#8, 0#8, 0#8]
    running.hears (.configureLine tol) = true ∧ fitsKind 0x10#8 tol = true ∧ running.store.busy = false ∧
    running.mode.mode = .run ∧ halted.mode.mode = .halted ∧
    ready.hears (.configureLine beyond) = true ∧ fitsKind 0x10#8 beyond = true ∧ 2 ^ 28 ≤ beNat (beyond.take 4) ∧
    ready.mode.mode = .idle ∧ beNat (tol.take 4) < 2 ^ 28 ∧
    lineCheck (buildCandidate (beNat (tol.take 4)) (tol.drop 4) ready.settings.line).line = 0 ∧
    lineCheck (buildCandidate (beNat (seal2.take 4)) (seal2.drop 4) ready.settings.line).line ≠ 0 := by decide

/-- Recipe 3 of the worked case as WRITE RECIPE carries it for recipe 15. -/
def recipe15 : List Byte :=
  [15#8, 1#8, 2#8, 0x30#8, 1#8, 0x90#8, 0x1B#8, 0x58#8, 0x1F#8, 0x40#8, 0x2E#8, 0xE0#8, 0#8, 20#8, 0#8, 120#8, 4#8,
   20#8, 15#8]

theorem witness_WriteRecipeJudged :
    let bad (i : Nat) (b : Byte) : List Byte := recipe15.set i b
    ready.hears (.writeRecipe recipe15) = true ∧ fitsKind 0x12#8 recipe15 = true ∧
    byteAt recipe15 0 = (15 : Fin 16).val ∧ ready.mode.mode ≠ .starting ∧ ready.store.busy = false ∧
    (running.mode.mode = .run ∧ running.recipeInUse 0 = true) ∧ running.recipeInUse 15 = false ∧
    byteAt ((bad 18 0#8).drop 1) 17 = 0 ∧ 15 < byteAt ((bad 18 16#8).drop 1) 17 ∧
    wordAt ((bad 8 0x1A#8).drop 1) 7 < wordAt ((bad 8 0x1A#8).drop 1) 5 ∧
    clamp 1 250 (wordAt ((bad 15 19#8).drop 1) 13) < clamp 1 250 (wordAt ((bad 15 19#8).drop 1) 11) ∧
    (¬wordAt (recipe15.drop 1) 7 < wordAt (recipe15.drop 1) 5 ∧ ¬wordAt (recipe15.drop 1) 9 < wordAt (recipe15.drop 1) 7) ∧
    clamp 1 250 (wordAt (recipe15.drop 1) 11) ≤ clamp 1 250 (wordAt (recipe15.drop 1) 13) ∧
    ready.settings.assignedToEnabled 15 = false ∧ ready.settings.assignedToEnabled 0 = true ∧
    ready.hears (.writeRecipe (bad 0 16#8)) = true ∧ fitsKind 0x12#8 (bad 0 16#8) = true ∧ 15 < byteAt (bad 0 16#8) 0 ∧
    recipeClamps (recipe15.drop 1) = 0#16 ∧ recipeClamps ((bad 16 16#8).drop 1) = 0x100#16 ∧
    ready.hears (.writeRecipe (bad 16 16#8)) = true := by decide

theorem witness_ReadRequestsAnswer :
    running.mode.mode ≠ .starting ∧ running.hears (.readLine []) = true ∧
    running.hears (.readRecipe [15#8]) = true ∧ (15 : Fin 16).val = (15#8).toNat ∧
    running.hears (.readRecipe [16#8]) = true ∧ 15 < (16#8).toNat ∧
    running.hears (.lookup [11#8, 3#8]) = true ∧ Lane.d.number = (3#8).toNat ∧
    (11#8).toNat ≤ running.settings.line.pGate ∧ running.settings.line.pGate < (12#8).toNat ∧
    running.hears (.lookup [12#8, 4#8]) = true ∧ 3 < (4#8).toNat := by decide

theorem witness_ReadRuleAnswers :
    ready.hears (.readRule [8#8]) = true ∧ 7 < (8#8).toNat ∧ priming.hears (.readRule [7#8]) = true ∧
    (7 : Fin 8).val = (7#8).toNat ∧ priming.mode.mode = .starting ∧ storing.hears (.readRule [7#8]) = true ∧
    storing.mode.mode ≠ .starting := by decide

theorem witness_WriteRuleJudged :
    ready.mode.mode ≠ .starting ∧ ready.store.busy = false ∧
    ready.hears (.writeRule (byte (7 : Fin 8).val :: 2#8 :: (ruleBytes 7 defaultRule).drop 2)) = true ∧
    ready.hears (.writeRule [8#8, 0#8, 0#8, 0#8, 0#8, 0#8]) = true ∧ 7 < (8#8).toNat ∧
    ready.hears (.writeRule [7#8, 0#8, 0x11#8, 0#8, 0#8, 0#8]) = true ∧ 0x10 < (0x11#8).toNat ∧
    ready.hears (.writeRule [7#8, 0#8, 0x10#8, 5#8, 0#8, 0#8]) = true ∧ 4 < (5#8).toNat ∧
    ready.hears (.writeRule [7#8, 0#8, 0x10#8, 4#8, 0x12#8, 0#8]) = true ∧ 0x11 < (0x12#8).toNat ∧
    ready.hears (.writeRule [7#8, 0#8, 0x10#8, 4#8, 0x11#8, 3#8]) = true ∧ 2 < (3#8).toNat := by decide

/-- RUN with recipe 15 invalid and only G1 common once lane A runs recipe 1, whose set has no G1. -/
def tight : State :=
  { running with
    settings := { settings2 with recipes := (settings2.recipes.set 15 defaultRecipe).set 1 { recipe3 with grades := 0xE#4 } }
    grade := ⟨0x1#4, 0x1#4, .g1, .g1, 0, 0, 0, 0#2⟩ }

theorem witness_AssignRecipeJudged :
    tight.hears (.assignRecipe [4#8, 0#8]) = true ∧ 3 < (4#8).toNat ∧ 15 < (16#8).toNat ∧
    tight.mode.mode ≠ .starting ∧ tight.store.busy = false ∧
    tight.hears (.assignRecipe [0#8, 15#8]) = true ∧ Lane.a.number = (0#8).toNat ∧ (15 : Fin 16).val = (15#8).toNat ∧
    (tight.settings.recipe 15).valid = false ∧ (tight.settings.recipe 1).valid = true ∧
    (tight.mode.mode = .run ∧ tight.settings.enabled .a = true ∧ tight.settings.assigned.lane .a ≠ 1 ∧
      commonSet { tight.settings with assigned := tight.settings.assigned.setLane .a 1 } tight.grade.capability = 0#4) ∧
    tight.settings.enabled .d = false := by decide

theorem witness_StoreAndRecall :
    ready.hears (.storeSettings []) = true ∧ ready.mode.mode ≠ .starting ∧ ready.store.busy = false ∧
    storing.phase = .running ∧ storing.store.busy = true ∧
    running.hears (.recallSettings []) = true ∧ running.mode.mode = .run ∧ ready.hears (.recallSettings []) = true ∧
    ready.mode.mode = .idle ∧ ready.store.stored = none ∧
    (after .storeComplete storing).store.stored = some settings2 ∧
    (after .storeComplete storing).hears (.recallSettings []) = true := by decide

/-- A recall that changes the advised grade and leaves E at 1250: the stored copy's recipes lack G1. -/
theorem witness_StoreAndRecall_handed_on :
    let st : Settings := { settings2 with
      line := { settings2.line with periods := ⟨500, 1000, 1667, 2500⟩ }
      recipes := Vector.replicate 16 { recipe3 with grades := 0xE#4 } }
    let s : State := { idleLocked with store := ⟨some st, true, false⟩ }
    s.hears (.recallSettings []) = true ∧ s.mode.mode = .idle ∧ s.store.busy = false ∧
    fastestFrom (commonSet st s.grade.capability) s.grade.floor = some .g2 ∧ s.grade.advised = .g1 ∧
    periodOf st.line .g2 = s.expectedPeriod ∧ s.rhythm.state = .locked ∧
    (after (.recallSettings []) s).rhythm.state = .acquiring ∧
    (after (.recallSettings []) s).notices.queue.map Prod.snd =
      [.store .lost, .rhythm .locked .acquiring .grade .none 0 1000 .g2] := by decide

theorem witness_AdvertiseGradesTaken :
    running.mode.mode ≠ .starting ∧ running.hears (.advertiseGrades [16#8]) = true ∧ 15 < (16#8).toNat ∧
    running.hears (.advertiseGrades [15#8]) = true ∧ (15#8).toNat ≤ 15 ∧
    (after (.advertiseGrades [15#8]) running).grade.common = running.grade.common ∧
    (after (.advertiseGrades [0#8]) running).grade.common ≠ running.grade.common := by decide

theorem witness_RestoresAndStall :
    running.hears (.restoreGrade []) = true ∧ running.mode.mode ≠ .starting ∧
    ready.phase = .running ∧ ready.rhythm.state = .stopped ∧ ready.rhythm.restoreStart = some 0 ∧
    ready.rhythm.signalGiven = false ∧ locked.phase = .running ∧ locked.rhythm.state ≠ .stopped := by decide

theorem witness_OutcomesMoveTheFloor :
    let g (c : GradeSet) (f : Grade) (k n r : Nat) : State :=
      { locked with grade := ⟨0xF#4, c, f, f, k, n, r, gradeLines f⟩ }
    (g 0xF#4 .g1 3 0 0).grade.strike + 1 < (g 0xF#4 .g1 3 0 0).settings.line.strikeLimit ∧
    (g 0xF#4 .g1 4 0 0).settings.line.strikeLimit ≤ (g 0xF#4 .g1 4 0 0).grade.strike + 1 ∧
    fastestSlower (g 0xF#4 .g1 4 0 0).grade.common (g 0xF#4 .g1 4 0 0).grade.advised = some .g2 ∧
    fastestSlower (g 0xF#4 .g4 4 0 0).grade.common (g 0xF#4 .g4 4 0 0).grade.advised = none ∧
    (g 0xF#4 .g1 4 0 0).rhythm.state = .locked ∧
    (g 0xF#4 .g1 0 19 0).settings.line.cleanRun ≤ (g 0xF#4 .g1 0 19 0).grade.cleanRun + 1 ∧
    (g 0xF#4 .g1 0 18 0).grade.cleanRun + 1 < (g 0xF#4 .g1 0 18 0).settings.line.cleanRun ∧
    (g 0xF#4 .g2 0 0 198).grade.floor ≠ .g1 ∧
    (g 0xF#4 .g2 0 0 198).grade.recovery + 1 < (g 0xF#4 .g2 0 0 198).settings.line.recoverRun ∧
    (g 0xF#4 .g2 0 0 199).settings.line.recoverRun ≤ (g 0xF#4 .g2 0 0 199).grade.recovery + 1 := by decide

/-- IDLE with lanes A and B enabled and lane B's recipe invalid. -/
def halfReady : State :=
  { ready with settings := { settings2 with
      recipes := settings2.recipes.set 15 defaultRecipe, assigned := ⟨0, 15, 0, 0⟩ } }

theorem witness_StartAndResumeJudged :
    ready.hears (.start []) = true ∧ priming.hears (.start []) = true ∧ priming.mode.mode = .starting ∧
    running.mode.mode = .run ∧ halted.hears (.start []) = true ∧ halted.mode.mode = .halted ∧
    listening.hears (.start []) = true ∧ listening.mode.mode = .idle ∧ listening.settings.line.lanes = 0#4 ∧
    halfReady.hears (.start []) = true ∧ halfReady.settings.enabled .b = true ∧
    (halfReady.settings.recipe (halfReady.settings.assigned.lane .b)).valid = false ∧
    (halfReady.settings.recipe (halfReady.settings.assigned.lane .a)).valid = true ∧
    ready.settings.line.lanes ≠ 0#4 ∧ (ready.settings.recipe (ready.settings.assigned.lane .b)).valid = true ∧
    ready.grade.common ≠ 0#4 ∧ (after (.advertiseGrades [0#8]) ready).grade.common = 0#4 ∧
    (after (.advertiseGrades [0#8]) ready).hears (.start []) = true ∧
    halted.hears (.resume []) = true ∧ halted.pins.switches = ⟨true, false⟩ ∧
    ({ halted with pins := ⟨⟨true, true⟩, false⟩ } : State).pins.switches ≠ ⟨true, false⟩ ∧
    running.hears (.resume []) = true ∧ priming.hears (.resume []) = true := by decide

theorem witness_PrimeEndJudged :
    let broken : State := { priming with zones := { priming.zones with zone := ⟨freshZone, ⟨.faulted, 0#12, 0⟩, freshZone, freshZone⟩ } }
    priming.phase = .running ∧ priming.mode.mode = .starting ∧ priming.mode.primeDue = some 200 ∧
    (broken.settings.enabled .b = true ∧ broken.settings.line.zoneMap.lane .b = .z1) ∧
    (broken.zones.zone.zone .z1).health = .faulted ∧ (broken.zones.zone.zone .z0).health = .healthy ∧
    priming.zones.zone = Quad.const freshZone ∧ priming.pins.switches = ⟨true, false⟩ ∧
    ({ priming with pins := ⟨⟨false, false⟩, false⟩ } : State).pins.switches ≠ ⟨true, false⟩ := by decide

theorem witness_StopEndsTheRun :
    ready.hears (.stop .unicast []) = true ∧ ready.mode.mode = .idle ∧ dwelling.hears (.stop .broadcast []) = true ∧
    dwelling.mode.mode ≠ .idle ∧ dwelling.press.state.inStroke = true ∧ dwelling.mode.mode ≠ .starting ∧
    dwelling.press.stroke.isSome = true ∧ running.hears (.stop .unicast []) = true ∧
    running.press.state.inStroke = false ∧ priming.hears (.stop .unicast []) = true ∧
    priming.mode.mode = .starting ∧ halted.hears (.stop .unicast []) = true ∧ halted.mode.mode = .halted ∧
    halted.mode.haltCause = .indexClosed := by decide

theorem witness_SoftResetClears :
    dwelling.hears (.softReset .unicast []) = true ∧ dwelling.hears (.softReset .broadcast []) = true ∧
    dwelling.mode.mode ≠ .starting ∧ dwelling.store.busy = false ∧
    running.hears (.softReset .unicast []) = true ∧ running.pins.switches = ⟨true, false⟩ ∧
    dwelling.pins.switches ≠ ⟨true, false⟩ := by decide

theorem witness_ResetSequences :
    storing.store.busy = true ∧ ready.store.busy = false ∧ running.phase ≠ .off ∧
    (after .pinReset running).phase = .held ∧ (after .powerOn running).phase = .loading .powerOn ∧
    (after .resetRelease (after .pinReset running)).phase = .loading .pin ∧
    (after .powerOn ready).store.stored = none ∧
    (after .powerOn (after .storeComplete storing)).store.stored.isSome = true := by decide

/-- RUN with a card at a position of lane B. -/
def at_ (q : Nat) (c : CardRecord) : State :=
  { running with track := { running.track with rows := putSlot (unknownTrack 11) q .b (.record c) } }

theorem witness_ReportsJudged :
    (at_ 3 (card 7)).hears (.reportFill [0#8, 7#8, 4#8]) = true ∧ (at_ 3 (card 7)).mode.mode ≠ .starting ∧
    (at_ 3 (card 7)).findCard 8#16 = none ∧ (at_ 3 (card 7)).findCard 7#16 = some ⟨3, .b, card 7⟩ ∧
    3 < (at_ 3 (card 7)).settings.line.dFill ∧ (at_ 4 (card 7)).findCard 7#16 = some ⟨4, .b, card 7⟩ ∧
    (at_ 4 (card 7)).settings.line.dFill ≤ 4 ∧
    ((at_ 4 { card 7 with fill := some 4 }).findCard 7#16).map (fun f => f.card.fill.isSome) = some true ∧
    (at_ 1 (card 7)).hears (.reportPlace [0#8, 7#8, 1#8, 0#8, 0#8]) = true ∧
    1 < (at_ 1 (card 7)).settings.line.pPlace ∧
    (at_ 8 (card 7)).hears (.reportVision [0#8, 7#8, 1#8, 0#8]) = true ∧
    (at_ 8 (card 7)).settings.line.pVision ≤ 8 ∧ 8 < (at_ 8 (card 7)).settings.line.dVision := by decide

/-- RUN with three cards: one to take OPERATOR, one that holds it, one whose list is full. -/
def marked : State :=
  { running with
    track := { running.track with
      rows := putSlot (putSlot running.track.rows 6 .b (.record { card 8 with marks := [.operator] })) 11 .d
        (.record { card 9 with marks := [.fillShort, .regOffset, .underbond, .dwellCut, .cadence, .indexClosed] }) } }

theorem witness_MarkingAddsOperator :
    running.hears (.markCard [0#8, 7#8]) = true ∧ running.mode.mode ≠ .starting ∧
    running.findCard 8#16 = none ∧ running.findCard 7#16 = some ⟨5, .a, card 7⟩ ∧
    running.hears (.markWindow []) = true ∧
    (running.track.window.firstPos ≤ 11 ∧ 11 ≤ running.track.window.lastPos ∧ ¬12 ≤ running.track.window.lastPos) ∧
    replyTo (.markWindow []) marked = .awaiting ⟨0xC1#8, [0#8, 1#8, 1#8, 1#8]⟩ := by decide

theorem witness_SetWindowJudged :
    priming.hears (.setWindow [0#8, 11#8, 0#8, 3#8]) = true ∧ priming.mode.mode = .starting ∧
    ready.mode.mode ≠ .starting ∧ ready.settings.line.pGate = 11 ∧
    ready.hears (.setWindow [12#8, 12#8, 0#8, 3#8]) = true ∧ ready.hears (.setWindow [11#8, 12#8, 3#8, 4#8]) = true ∧
    ready.hears (.setWindow [11#8, 11#8, 3#8, 3#8]) = true ∧ ready.hears (.setWindow [0#8, 0#8, 1#8, 0#8]) = true := by
  decide

theorem witness_WindowReads :
    let opened : State := after (.readWindow []) { running with track := { running.track with window := ⟨5, 6, 0, 3⟩ } }
    let spent : State := after (.nextChunk []) opened
    running.mode.mode ≠ .starting ∧ running.hears (.readWindow []) = true ∧ opened.hears (.nextChunk []) = true ∧
    (opened.link.window.map fun w => (w.cursor, w.entries.length)) = some (4, 8) ∧
    (spent.link.window.map fun w => (w.cursor, w.entries.length)) = some (8, 8) ∧
    spent.hears (.nextChunk []) = true ∧ spent.hears (.abort []) = true ∧
    running.hears (.abort []) = true ∧ running.link.window = none := by decide

theorem witness_CountRequests :
    running.hears (.latchCounts .unicast []) = true ∧ running.hears (.latchCounts .broadcast []) = true ∧
    running.mode.mode ≠ .starting ∧ running.hears (.readCounts []) = true ∧ running.discharge.snapshot = none ∧
    (after (.latchCounts .broadcast []) running).discharge.snapshot = some ⟨zeroBank, 100#32⟩ ∧
    (after (.latchCounts .broadcast []) running).hears (.readCounts []) = true ∧
    running.hears (.clearCounts []) = true := by decide

theorem witness_IndexJudgedByRhythm :
    let acquiring (n : Nat) : State := { locked with rhythm := ⟨.acquiring, some 0, 1000, n, 0, false, 0, none, false, none⟩ }
    let slipping (n : Nat) : State := { locked with rhythm := ⟨.slipping, some 0, 1000, 0, n, false, 0, none, false, none⟩ }
    running.phase = .running ∧ (after .powerOn running).phase ≠ .running ∧ locked.rhythm.lastEdge = some 0 ∧
    (0 + 20 ≤ locked.now + 0 ∧ ({ locked with now := 0 } : State).now + 19 < 0 + 20 ∧
      0 + 20 ≤ ({ locked with now := 0 } : State).now + 20) ∧
    locked.press.state.inStroke = false ∧ running.rhythm.state = .stopped ∧ running.rhythm.lastEdge = none ∧
    locked.expectedPeriod * (100 - locked.settings.line.tol) / 100 = 950 ∧
    locked.expectedPeriod * (100 + locked.settings.line.tol) / 100 = 1050 ∧ locked.settings.line.warnInUse = false ∧
    (acquiring 3).settings.line.lockCount ≤ (acquiring 3).rhythm.good + 1 ∧
    (acquiring 2).rhythm.good + 1 < (acquiring 2).settings.line.lockCount ∧
    (slipping 2).settings.line.slipLimit ≤ (slipping 2).rhythm.slip + 1 ∧
    (slipping 1).rhythm.slip + 1 < (slipping 1).settings.line.slipLimit ∧
    dwelling.phase = .running ∧ dwelling.press.state.inStroke = true ∧ dwelling.rhythm.lastEdge = none ∧
    closing.press.state.inStroke = true ∧
    (TrackRequest.markWindow []).instr = .markWindow [] := by decide

theorem witness_IndexMovesTheTrack :
    running.phase = .running ∧ running.rhythm.lastEdge = none ∧ running.press.state.inStroke = false ∧
    running.mode.mode = .run ∧ halted.mode.mode = .halted ∧ ready.mode.mode = .idle ∧ priming.mode.mode = .starting ∧
    running.track.rows.length = running.settings.line.pGate + 1 ∧ 10 < running.settings.line.pGate + 0 ∧
    running.settings.enabled .a = true ∧ running.settings.enabled .d = false ∧
    (dwelling.phase = .running ∧ dwelling.press.state.inStroke = true ∧ dwelling.rhythm.lastEdge = none ∧
      dwelling.mode.mode = .run) ∧ closing.press.state.inStroke = true ∧
    (TrackRequest.reportVision [0#8, 7#8, 1#8, 0#8]).instr = .reportVision [0#8, 7#8, 1#8, 0#8] ∧
    (halted.mode.mode ≠ .run ∧ halted.press.state.inStroke = false) ∧ running.press.state = .opened := by decide

theorem witness_PressAnswersIndex :
    running.phase = .running ∧ running.rhythm.lastEdge = none ∧ running.press.state = .opened ∧
    running.mode.mode = .run ∧ halted.press.state = .opened ∧ halted.mode.mode ≠ .run ∧
    settling.press.state = .settling ∧ releasing.press.state = .releasing ∧ closing.press.state = .closing ∧
    dwelling.press.state = .dwell ∧ dwelling.pins.switches ≠ ⟨true, false⟩ ∧
    ({ dwelling with pins := ⟨⟨true, false⟩, false⟩ } : State).pins.switches = ⟨true, false⟩ ∧
    dwelling.press.stroke.isSome = true ∧ (after .openTimeout releasing).press.state = .stuck ∧
    (after .openTimeout releasing).mode.mode ≠ .run := by decide

/-- Where the track of `dwelling` holds a record: in one slot only. -/
theorem dwelling_records (q : Nat) (l : Lane) (c : CardRecord) (h : slotAt dwelling.track.rows q l = .record c) :
    q = 5 ∧ l = .a ∧ c = { card 7 with sealPart := some .pressing } := by
  by_cases hq : q < 12
  · have all : ∀ q : Fin 12, ∀ l ∈ Lane.all, (q = 5 ∧ l = .a) ∨ slotAt dwelling.track.rows q.val l = .unknown := by decide
    have hl : l ∈ Lane.all := by cases l <;> decide
    rcases all ⟨q, hq⟩ l hl with ⟨h5, ha⟩ | hu
    · have hq5 : q = 5 := congrArg Fin.val h5
      subst hq5
      subst ha
      have e : slotAt dwelling.track.rows 5 .a = .record { card 7 with sealPart := some .pressing } := by decide
      rw [e] at h
      cases h
      exact ⟨rfl, rfl, rfl⟩
    · rw [hu] at h
      cases h
  · have len : dwelling.track.rows.length = 12 := by decide
    have none : dwelling.track.rows[q]? = none := List.getElem?_eq_none (by omega)
    rw [slotAt, rowAt, List.getD_eq_getElem?_getD, none] at h
    revert h
    cases l <;> intro h <;> cases h

theorem witness_TerminationWritesResults :
    (∀ q l c q' l' c', slotAt dwelling.track.rows q l = .record c → slotAt dwelling.track.rows q' l' = .record c' →
      c.serial = c'.serial → q = q' ∧ l = l') ∧
    dwelling.press.stroke = some ⟨10#32, false, 30, 60, [lane7]⟩ ∧
    [lane7].Pairwise (fun k k' => k.serial ≠ k'.serial) ∧ [lane7].Pairwise (fun k k' => k.lane ≠ k'.lane) ∧
    lane7.serial = 7#16 ∧
    slotAt dwelling.track.rows 5 .a = .record { card 7 with sealPart := some .pressing } := by
  refine ⟨?_, by decide, by decide, by decide, by decide, by decide⟩
  intro q l c q' l' c' h h' _
  obtain ⟨rfl, rfl, -⟩ := dwelling_records q l c h
  obtain ⟨rfl, rfl, -⟩ := dwelling_records q' l' c' h'
  exact ⟨rfl, rfl⟩

theorem witness_SettleExpiryJudged :
    let s : State := { dwelling with
      track := { dwelling.track with rows := unknownTrack 11 }, press := settling.press }
    (∀ q l c q' l' c', slotAt s.track.rows q l = .record c → slotAt s.track.rows q' l' = .record c' →
      c.serial = c'.serial → q = q' ∧ l = l') ∧
    s.phase = .running ∧ s.press.state = .settling ∧ s.press.settleDue = some 40 ∧ s.mode.mode = .run ∧
    settling.phase = .running ∧ settling.mode.mode = .run ∧ settling.settings.line.warnInUse = false ∧
    settling.rhythm.state ≠ .locked ∧
    slotAt settling.track.rows settling.settings.line.pSeal .a = .record (card 7) ∧ (card 7).sealPart = none := by
  refine ⟨?_, by decide, by decide, by decide, by decide, by decide, by decide, by decide, by decide, by decide, by decide⟩
  intro q l c q' l' c' h _ _
  simp only [slotAt, rowAt, unknownTrack, List.getD_eq_getElem?_getD] at h
  by_cases hq : q < 12
  · rw [List.getElem?_replicate_of_lt (by omega)] at h
    cases l <;> cases h
  · rw [List.getElem?_eq_none (by simp; omega)] at h
    cases l <;> cases h

theorem witness_WarnEdgeTaken :
    let used (s : State) : State := { s with settings := { settings2 with line := { settings2.line with warnInUse := true } } }
    running.phase = .running ∧ (after .powerOn running).phase ≠ .running ∧ running.settings.line.warnInUse = false ∧
    (used settling).settings.line.warnInUse = true ∧ (used settling).press.state = .settling ∧
    (used closing).press.state = .closing ∧ (used dwelling).press.state = .dwell ∧
    (used releasing).press.state = .releasing := by decide

theorem witness_ConfirmationsMovePress :
    closing.phase = .running ∧ closing.press.state = .closing ∧ releasing.press.state = .releasing ∧
    (after .openTimeout releasing).press.state = .stuck ∧ dwelling.press.state = .dwell ∧
    (⟨true, true⟩ : Switches) ≠ ⟨true, false⟩ := by decide

theorem witness_PressTimersRunOut :
    closing.phase = .running ∧ closing.press.state = .closing ∧ closing.press.closeDue = some 150 ∧
    (3 ≤ min (closing.press.closeTimeouts + 1) 255 ∧ closing.mode.mode = .run) ∧
    min (({ closing with press := { closing.press with closeTimeouts := 1 } } : State).press.closeTimeouts + 1) 255 < 3 ∧
    releasing.press.state = .releasing ∧ releasing.press.openDue = some 200 ∧ releasing.mode.mode = .run ∧
    ({ releasing with mode := idleMode } : State).mode.mode ≠ .run ∧
    locked.rhythm.state = .locked ∧ locked.rhythm.deadline = some 890 ∧ locked.press.state ≠ .dwell ∧
    ({ dwelling with rhythm := locked.rhythm } : State).press.state = .dwell := by decide

theorem witness_ZonesSampled :
    let broken : ZoneRecord := ⟨.faulted, 712#12, 6⟩
    running.phase = .running ∧ running.press.state.inStroke = false ∧
    (¬40 ≤ (39#12).toNat ∧ 40 ≤ (40#12).toNat ∧ (3999#12).toNat ≤ 3999 ∧ ¬(4000#12).toNat ≤ 3999) ∧
    (running.zones.zone.zone .z0).health = .healthy ∧ broken.health = .faulted ∧ broken.recovery < 7 ∧
    ¬({ broken with recovery := 7 } : ZoneRecord).recovery < 7 ∧
    ((running.sampleZones ⟨39#12, 40#12, 3999#12, 4000#12⟩ 0#10).notices.queue.map Prod.snd).drop 1 =
      [.zone .z0 .faulted .shorted 39#12 0#12, .zone .z3 .faulted .openCircuit 4000#12 0#12] := by decide

theorem witness_StrokeSampled :
    dwelling.phase = .running ∧ dwelling.press.stroke = some ⟨10#32, false, 30, 60, [lane7]⟩ ∧
    dwelling.press.state = .dwell ∧ closing.press.state = .closing ∧
    (lane7.doseTarget ≤ 7900 + 163 ∧ ¬lane7.doseTarget ≤ 7900 ∧ lane7.dwellMin ≤ 31) ∧ 59 + 1 = 60 ∧ 30 + 1 ≠ 60 := by
  decide

theorem witness_DischargeOutcome :
    ({ card 7 with overflow := true } : CardRecord).overflow = true ∧ (card 7).overflow = false ∧
    (rules8.find? fun r => r.matchesCard .b { card 7 with recipe := 5, marks := [.cadence] }) =
      some ⟨true, some 5, none, .holds .cadence, .pass⟩ ∧
    (defaultSettings.rules.toList.find? fun r => r.matchesCard .a (card 7)) = none ∧
    defaultSettings.line.unknownPolicy = .reject := by decide

theorem witness_DischargeRowTaken :
    let st : Settings := { settings2 with rules := settings2.rules.set 4 ⟨true, none, some .d, .none, .sample⟩ }
    slotFate st .a (.record { card 7 with marks := [.operator] }) = some .reject ∧
    slotFate st .b (.record (card 7)) = some .pass ∧ slotFate st .d (.record (card 7)) = some .sample ∧
    slotFate st .c .unknown = some .reject ∧ slotFate st .c .none = none := by decide

theorem witness_FlapActions :
    let pulsing : State := after (.flapDue (.flap .a)) flapped
    flapped.phase = .running ∧ flapped.discharge.flaps.q0.pending = some 120 ∧
    pulsing.discharge.flaps.q0.pulse = some 200 ∧ (⟨some 120, none⟩ : Flap).pending ≠ none ∧ freshFlap.pending = none ∧
    ({ flapped with discharge := { flapped.discharge with sample := ⟨some 150, some 99⟩ } } : State).discharge.sample =
      ⟨some 150, some 99⟩ := by decide

theorem witness_ModeStaysLegal : dwelling.modeLegal ∧ dwelling.resetHeld ∧ (after .powerOn dwelling).resetHeld := by
  refine ⟨?_, ?_, ?_⟩
  · unfold State.modeLegal
    decide
  · intro h
    exact absurd rfl h
  · intro _
    refine ⟨by decide, by decide, ?_, by decide, by decide, by decide, by decide, by decide, by decide⟩
    intro l
    cases l <;> decide

theorem witness_SettingsStayLegal : dwelling.settingsLegal := by
  refine ⟨⟨?_, ?_, ?_, by decide, by decide⟩, ?_⟩
  · unfold LineConfig.inRange
    decide
  · unfold LineConfig.consistent
    decide
  · intro r hr
    have e : r = recipe3 := List.eq_of_mem_replicate (n := 16) (by simpa [dwelling, running, ready, settings2] using hr)
    subst e
    unfold Recipe.legal
    decide
  · intro st h
    cases h

theorem witness_PressStaysLegal : dwelling.pressLegal := by
  unfold State.pressLegal
  decide

theorem witness_StrokeStaysLegal : dwelling.strokeLegal := by
  intro x hx
  have e : x = ⟨10#32, false, 30, 60, [lane7]⟩ := by
    have h : dwelling.press.stroke = some x := hx
    have h' : dwelling.press.stroke = some ⟨10#32, false, 30, 60, [lane7]⟩ := by decide
    rw [h'] at h
    exact (Option.some.inj h).symm
  subst e
  refine ⟨by decide, by decide, by decide, by decide, ?_⟩
  intro k hk
  rw [List.mem_singleton.mp hk]
  decide

theorem witness_RhythmStaysLegal : locked.rhythmLegal ∧ dwelling.rhythmLegal := by
  unfold State.rhythmLegal
  decide

theorem witness_GradeStaysLegal : dwelling.gradeLegal := by
  unfold State.gradeLegal
  decide

theorem witness_TrackStaysLegal : dwelling.trackLegal := by
  refine ⟨by decide, ?_, ?_, by decide⟩
  · unfold Window.legal
    decide
  · intro r hr l c hc
    obtain ⟨q, hq, e⟩ := List.getElem_of_mem hr
    have h : slotAt dwelling.track.rows q l = .record c := by
      rw [slotAt, rowAt, List.getD_eq_getElem?_getD, List.getElem?_eq_getElem hq, e]
      exact hc
    obtain ⟨-, -, rfl⟩ := dwelling_records q l c h
    unfold CardRecord.legal
    refine ⟨by decide, by decide, by decide, ?_, ?_⟩ <;> intro n hn <;> cases hn

theorem witness_SealStaysLegal : dwelling.sealLegal := by
  intro q l c h _
  obtain ⟨rfl, rfl, rfl⟩ := dwelling_records q l c h
  exact ⟨.inl rfl, ⟨10#32, false, 30, 60, [lane7]⟩, by decide, lane7, by decide, by decide, by decide⟩

theorem witness_ZonesStayLegal : running.zonesLegal := by
  intro z
  unfold ZoneRecord.legal
  cases z <;> decide

theorem witness_SerialsStayUnique : dwelling.serialsLegal := by
  refine ⟨?_, ?_, ?_⟩
  · intro q l c h
    obtain ⟨rfl, rfl, rfl⟩ := dwelling_records q l c h
    decide
  · intro q l c q' l' c' h h' hlt
    obtain ⟨rfl, rfl, -⟩ := dwelling_records q l c h
    obtain ⟨rfl, rfl, -⟩ := dwelling_records q' l' c' h'
    rcases hlt with h5 | ⟨-, hl⟩
    · exact absurd h5 (by decide)
    · exact absurd hl (by decide)
  · intro q l c q' l' c' h h' _
    obtain ⟨rfl, rfl, -⟩ := dwelling_records q l c h
    obtain ⟨rfl, rfl, -⟩ := dwelling_records q' l' c' h'
    exact ⟨rfl, rfl⟩

/-- `dwelling` with the counts of the one card that entered. -/
theorem witness_CountsStayBalanced :
    ({ dwelling with discharge := { dwelling.discharge with bank := clearedBank dwelling.track.rows } } : State).countsBalanced := by
  intro l
  unfold LaneCounts.balanced saturated
  cases l <;> decide

theorem witness_QueueStaysLegal : dwelling.queueLegal := by
  refine ⟨by decide, ?_⟩
  intro i n hn
  rcases i with _ | i
  · cases hn
    decide
  · cases hn

end Sys2Proof.Tests
end

section
/-! # Requests

What a request that is heard answers, and the conditions and codes its rule reads. -/

namespace Sys2Proof.Machine

/-! ## A request heard (10 R168 to R171) -/

section Heard

variable {i : Instr} {kind : Byte} {p : List Byte} {s : State} {rule : State → Served}

/-- A request is heard by a running part alone. -/
theorem State.phase_of_hears (hh : s.hears i = true) : s.phase = .running := by
  simp only [State.hears, State.running, Bool.and_eq_true, decide_eq_true_eq] at hh
  exact hh.1.1

/-- A request heard whose length fits has the effect and the reply of its rule. -/
theorem serve_eq_rule (hh : s.hears i = true) (hf : fitsKind kind p = true) :
    serve i kind p s rule = .next ((rule s.frameTaken).1.answer kind (rule s.frameTaken).2) := by
  rw [serve, if_pos hh, if_pos hf]

theorem serve_eq_answer {t : State} {reply : List Byte} (hh : s.hears i = true) (hf : fitsKind kind p = true)
    (hr : rule s.frameTaken = (t, reply)) : serve i kind p s rule = .next (t.answer kind reply) := by
  rw [serve_eq_rule hh hf, hr]

/-- A request whose rule changes nothing is answered, and that is all. -/
theorem serve_eq_afterReply {reply : List Byte} (hh : s.hears i = true) (hf : fitsKind kind p = true)
    (hr : rule s.frameTaken = (s.frameTaken, reply)) : serve i kind p s rule = .next (s.afterReply kind reply) := by
  rw [serve_eq_answer hh hf hr]
  rfl

/-- A request whose rule judges STARTING first is answered BUSY there (09 R156). -/
theorem serve_busy_of_starting {f : State → Served} (hh : s.hears i = true) (hf : fitsKind kind p = true)
    (hm : s.mode.mode = .starting) :
    serve i kind p s (fun u => if u.starting then refuse u .busy else f u) = .next (s.afterReply kind [3#8]) :=
  serve_eq_afterReply hh hf (if_pos (decide_eq_true hm))

/-- A request whose rule judges STARTING and then the store is answered BUSY during a store (10 R183). -/
theorem serve_busy_of_storing {f : State → Served} (hh : s.hears i = true) (hf : fitsKind kind p = true)
    (hb : s.storing) :
    serve i kind p s
      (fun u => if u.starting then refuse u .busy else if u.store.busy then refuse u .busy else f u) =
        .next (s.afterReply kind [3#8]) := by
  refine serve_eq_afterReply hh hf ?_
  rw [if_pos (c := s.frameTaken.store.busy = true) hb, ite_self]
  rfl

end Heard

/-- A broadcast whose rule refuses it is taken and not answered (10 R169). -/
theorem serveTo_broadcast_eq_afterFrame {i : Instr} {kind : Byte} {p : List Byte} {s : State}
    {rule : State → Served} {st : Status} (hh : s.hears i = true) (hf : fitsKind kind p = true)
    (hr : rule s.frameTaken = refuse s.frameTaken st) : serveTo .broadcast i kind p s rule = .next s.afterFrame := by
  simp only [serveTo, if_pos hh, if_pos hf, hr]
  rfl

/-! ## The conditions a rule reads -/

section Conditions

variable {s : State}

@[simp] theorem State.frameTaken_starting : s.frameTaken.starting = s.starting := rfl
@[simp] theorem State.frameTaken_tracking : s.frameTaken.tracking = s.tracking := rfl

theorem State.starting_iff : s.starting = true ↔ s.mode.mode = .starting := decide_eq_true_iff

theorem State.starting_eq_false (h : s.mode.mode ≠ .starting) : s.starting = false := decide_eq_false h

theorem State.tracking_iff : s.tracking = true ↔ s.mode.mode = .run ∨ s.mode.mode = .halted := decide_eq_true_iff

theorem State.tracking_eq_false (h : s.mode.mode = .idle) : s.tracking = false := by simp [State.tracking, h]

theorem State.store_busy_eq_false (h : ¬s.storing) : s.store.busy = false := eq_false_of_ne_true h

end Conditions

/-! ## Codes (11 section 11.8) -/

theorem indexOfCode_val {size : Nat} (n : Fin size) : indexOfCode n.val size = some n := dif_pos n.isLt

theorem indexOfCode_eq_none {n size : Nat} (h : size ≤ n) : indexOfCode n size = none := dif_neg (by omega)

theorem laneOfCode_number (l : Lane) : laneOfCode l.number = some l := by cases l <;> rfl

theorem laneOfCode_eq_none {n : Nat} (h : 3 < n) : laneOfCode n = none := by
  match n with
  | 0 | 1 | 2 | 3 => omega
  | _ + 4 => rfl

theorem byte_toNat (b : Byte) : byte b.toNat = b := BitVec.ofNat_toNat 8 b |>.trans (BitVec.setWidth_eq b)

end Sys2Proof.Machine

/-! # The consistency check -/

namespace Sys2Proof.Machine

/-- The relations of 01 R2 by number; a number that is no relation's holds. -/
def LineConfig.relation (c : LineConfig) : Nat → Prop
  | 1 => c.pPlace < c.pSeal ∧ c.pSeal < c.pVision ∧ c.pVision < c.pGate
  | 2 => c.dFill ≤ c.pSeal
  | 3 => c.pPlace + 1 ≤ c.dPlace ∧ c.dPlace ≤ c.pSeal
  | 4 => c.pVision + 1 ≤ c.dVision ∧ c.dVision ≤ c.pGate
  | 5 => c.periods.q0 < c.periods.q1 ∧ c.periods.q1 < c.periods.q2 ∧ c.periods.q2 < c.periods.q3
  | 6 => c.recoverRun = 0 ∨ c.cleanRun ≤ c.recoverRun
  | _ => True

/-- All relations hold when the six do. -/
theorem LineConfig.consistent_iff_relation (c : LineConfig) : c.consistent ↔ ∀ k, c.relation k := by
  constructor
  · rintro ⟨h1, h2, h3, h4, h5, h6⟩ k
    match k with
    | 1 => exact h1
    | 2 => exact h2
    | 3 => exact h3
    | 4 => exact h4
    | 5 => exact h5
    | 6 => exact h6
    | 0 | _ + 7 => trivial
  · intro h
    exact ⟨h 1, h 2, h 3, h 4, h 5, h 6⟩

/-- The check answers 0 where every relation holds, and otherwise the first that does not. -/
theorem lineCheck_cases (c : LineConfig) :
    (lineCheck c = 0 ∧ ∀ k, c.relation k) ∨
    (¬c.relation (lineCheck c) ∧ ∀ j < lineCheck c, c.relation j) := by
  have b1 : ∀ j < 1, c.relation j := fun j hj => by
    rw [Nat.lt_one_iff.mp hj]
    trivial
  unfold lineCheck
  split
  · next h1 => exact .inr ⟨h1, b1⟩
  next h1 =>
  have b2 := Nat.forall_lt_succ_right.mpr ⟨b1, Classical.not_not.mp h1⟩
  split
  · next h2 => exact .inr ⟨h2, b2⟩
  next h2 =>
  have b3 := Nat.forall_lt_succ_right.mpr ⟨b2, Classical.not_not.mp h2⟩
  split
  · next h3 => exact .inr ⟨h3, b3⟩
  next h3 =>
  have b4 := Nat.forall_lt_succ_right.mpr ⟨b3, Classical.not_not.mp h3⟩
  split
  · next h4 => exact .inr ⟨h4, b4⟩
  next h4 =>
  have b5 := Nat.forall_lt_succ_right.mpr ⟨b4, Classical.not_not.mp h4⟩
  split
  · next h5 => exact .inr ⟨h5, b5⟩
  next h5 =>
  have b6 := Nat.forall_lt_succ_right.mpr ⟨b5, Classical.not_not.mp h5⟩
  split
  · next h6 => exact .inr ⟨h6, b6⟩
  next h6 =>
  exact .inl ⟨rfl, c.consistent_iff_relation.mp ⟨b6 1 (by decide), b6 2 (by decide), b6 3 (by decide),
    b6 4 (by decide), b6 5 (by decide), Classical.not_not.mp h6⟩⟩

theorem lineCheck_eq_zero_iff (c : LineConfig) : lineCheck c = 0 ↔ c.consistent := by
  rw [c.consistent_iff_relation]
  rcases lineCheck_cases c with ⟨h0, hall⟩ | ⟨hne, -⟩
  · exact iff_of_true h0 hall
  · refine iff_of_false (fun h0 => hne ?_) (fun hall => hne (hall _))
    rw [h0]
    trivial

/-- The check answers a number other than 0 exactly where that relation is the first to fail. -/
theorem lineCheck_eq_iff (c : LineConfig) {k : Nat} (hk : k ≠ 0) :
    lineCheck c = k ↔ ¬c.relation k ∧ ∀ j < k, c.relation j := by
  rcases lineCheck_cases c with ⟨h0, hall⟩ | ⟨hne, hbefore⟩
  · exact iff_of_false (by omega) fun h => h.1 (hall k)
  · constructor
    · rintro rfl
      exact ⟨hne, hbefore⟩
    · rintro ⟨hk', hbefore'⟩
      rcases Nat.lt_trichotomy (lineCheck c) k with hlt | heq | hgt
      · exact absurd (hbefore' _ hlt) hne
      · exact heq
      · exact absurd (hbefore _ hgt) hk'

end Sys2Proof.Machine

namespace Sys2Proof.Proofs

open Sys2Proof.Machine

/-- Settles O14: the statement's relations are those of `LineConfig.relation`, and the lanes stand in none. -/
theorem lineConsistencyCheck : Obligations.LineConsistencyCheck := by
  intro c holds
  have same : holds = c.relation := by
    funext k
    match k with
    | 0 | 1 | 2 | 3 | 4 | 5 | 6 | _ + 7 => rfl
  rw [same]
  exact ⟨(lineCheck_eq_zero_iff c).trans c.consistent_iff_relation, fun k hk => lineCheck_eq_iff c hk, fun _ => rfl⟩

end Sys2Proof.Proofs
end

section
namespace Sys2Proof.Proofs

open Sys2Proof.Machine

/-- READ LINE outside STARTING (01 R9). -/
theorem readLine_answers {s : State} (hm : s.mode.mode ≠ .starting) (hh : s.hears (.readLine []) = true) :
    exec (.readLine []) s = .next (s.afterReply 0x11#8 (0#8 :: lineBytes s.settings.line)) := by
  show execReadLine [] s = _
  refine serve_eq_afterReply hh (by rfl) ?_
  simp only [State.frameTaken_starting, State.starting_eq_false hm]
  rfl

/-- READ RECIPE outside STARTING of a recipe that is there (01 R14). -/
theorem readRecipe_answers {s : State} {b : Byte} {n : Fin 16} (hm : s.mode.mode ≠ .starting)
    (hh : s.hears (.readRecipe [b]) = true) (hn : n.val = b.toNat) :
    exec (.readRecipe [b]) s = .next (s.afterReply 0x13#8
      (0#8 :: byte (if s.recipeInUse n then 1 else 0) :: recipeBytes (s.settings.recipe n))) := by
  show execReadRecipe [b] s = _
  refine serve_eq_afterReply hh (by rfl) ?_
  have hb : indexOfCode (byteAt [b] 0) 16 = some n := by rw [← indexOfCode_val n, hn]; rfl
  simp only [hb, State.frameTaken_starting, State.starting_eq_false hm]
  rfl

/-- LOOKUP outside STARTING of a slot of the track (03 R62). -/
theorem lookup_answers {s : State} {q b : Byte} {l : Lane} (hm : s.mode.mode ≠ .starting)
    (hh : s.hears (.lookup [q, b]) = true) (hl : l.number = b.toNat) (hq : q.toNat ≤ s.settings.line.pGate) :
    exec (.lookup [q, b]) s = .next (s.afterReply 0x33#8
      ([0#8, q, b] ++ be32 s.track.advances.toNat ++ lookupSlotBytes (slotAt s.track.rows q.toNat l))) := by
  show execLookup [q, b] s = _
  refine serve_eq_afterReply hh (by rfl) ?_
  have hb : laneOfCode (byteAt [q, b] 1) = some l := by rw [← laneOfCode_number l, hl]; rfl
  have hq' : ¬ s.frameTaken.settings.line.pGate < byteAt [q, b] 0 := Nat.not_lt.mpr hq
  simp only [hb, State.frameTaken_starting, State.starting_eq_false hm, if_neg hq']
  rw [hl, show byteAt [q, b] 0 = q.toNat from rfl, byte_toNat, byte_toNat]
  rfl

/-- LOOKUP outside STARTING of a position or a lane beyond the last (03 R62). -/
theorem lookup_out_of_range {s : State} {q b : Byte} (hm : s.mode.mode ≠ .starting)
    (hh : s.hears (.lookup [q, b]) = true) (hr : s.settings.line.pGate < q.toNat ∨ 3 < b.toNat) :
    exec (.lookup [q, b]) s = .next (s.afterReply 0x33#8 [5#8]) := by
  show execLookup [q, b] s = _
  refine serve_eq_afterReply hh (by rfl) ?_
  simp only [State.frameTaken_starting, State.starting_eq_false hm]
  rcases hr with hq | hb
  · rw [if_pos (show s.frameTaken.settings.line.pGate < byteAt [q, b] 0 from hq)]
    rfl
  · rw [laneOfCode_eq_none (show 3 < byteAt [q, b] 1 from hb), ite_self]
    rfl

/-- Settles O17, request by request. -/
theorem readRequestsAnswer : Obligations.ReadRequestsAnswer := by
  intro s hm
  refine ⟨readLine_answers hm, fun b hh => ⟨fun n hn => readRecipe_answers hm hh hn, fun hb => ?_⟩,
    fun q b hh => ⟨fun l hl hq => ?_, lookup_out_of_range hm hh⟩⟩
  · show execReadRecipe [b] s = _
    refine serve_eq_afterReply hh (by rfl) ?_
    rw [indexOfCode_eq_none (show 16 ≤ byteAt [b] 0 from hb)]
    rfl
  · rw [lookup_answers hm hh hl hq]
    cases slotAt s.track.rows q.toNat l <;> rfl

end Sys2Proof.Proofs
end

section
/-! # What leaves the working settings and the stored copy as they are

No operation of the machine side writes either; the lemmas say so operation by operation, up to
`exec_keeps_settings`, which names the commands that may. -/

namespace Sys2Proof.Machine

/-! ## The advance moves the track, the notices and the Discharge Unit alone -/

/-- `t` is `s` but for the track, the notices and the Discharge Unit. -/
def State.trackSide (s t : State) : Prop := ∃ x n d, t = ((s.setTrack x).setNotices n).setDischarge d

namespace State.trackSide

variable {s t u : State}

theorem refl (s : State) : s.trackSide s := ⟨s.track, s.notices, s.discharge, rfl⟩

theorem trans (h : s.trackSide t) (h' : t.trackSide u) : s.trackSide u := by
  obtain ⟨x, n, d, rfl⟩ := h
  obtain ⟨x', n', d', rfl⟩ := h'
  exact ⟨x', n', d', rfl⟩

theorem foldl {α : Type} {f : State → α → State} (h : ∀ (t : State) x, t.trackSide (f t x)) (xs : List α) :
    ∀ s : State, s.trackSide (xs.foldl f s) := by
  induction xs with
  | nil => exact refl
  | cons x xs ih => exact fun s => (h s x).trans (ih _)

theorem setTrack (s : State) (x : TrackState) : s.trackSide (s.setTrack x) := ⟨x, s.notices, s.discharge, rfl⟩

theorem of_eq {x : TrackState} {n : NoticeUnit} (h : t = (s.setTrack x).setNotices n) : s.trackSide t :=
  ⟨x, n, s.discharge, h⟩

theorem onBank (s : State) (f : CounterBank → CounterBank) : s.trackSide (s.onBank f) :=
  ⟨s.track, s.notices, { s.discharge with bank := f s.discharge.bank }, rfl⟩

theorem raise (s : State) (n : Notice) : s.trackSide (s.raise n) :=
  ⟨s.track, s.notices.push s.settings.noticeMask n, s.discharge, rfl⟩

theorem dischargeRow (s : State) (r : Row) : s.trackSide (s.dischargeRow r) :=
  ⟨s.track, s.notices, _, s.dischargeRow_eq r⟩

theorem markAt (s : State) (q : Nat) (l : Lane) (k : MarkKind) (f : CardRecord → Bool) (d : Bool) :
    s.trackSide (s.markAt q l k f d) := of_eq (s.markAt_eq q l k f d)

theorem missingMarks (s : State) : s.trackSide s.missingMarks :=
  foldl (fun t q => foldl (fun u l => of_eq (u.deadlinesAt_eq q l)) Lane.all t) _ s

theorem notSealedMarks (s : State) : s.trackSide s.notSealedMarks :=
  foldl (fun t l => markAt t _ l _ _ _) Lane.all s

/-- An advance moves the track, the notices and the Discharge Unit alone. -/
theorem advance (s : State) : s.trackSide s.advance := by
  unfold State.advance
  dsimp only
  refine trans ?_ (raise _ _)
  refine trans ?_ (onBank _ _)
  refine trans ?_ (setTrack _ _)
  refine trans ?_ (notSealedMarks _)
  refine trans ?_ (missingMarks _)
  refine trans ?_ (setTrack _ _)
  exact dischargeRow _ _

end State.trackSide

theorem State.advance_frame (s : State) :
    s.advance.now = s.now ∧ s.advance.freeDraws = s.freeDraws ∧ s.advance.phase = s.phase ∧
    s.advance.pins = s.pins ∧ s.advance.settings = s.settings ∧ s.advance.store = s.store ∧
    s.advance.mode = s.mode ∧ s.advance.zones = s.zones ∧ s.advance.press = s.press ∧
    s.advance.rhythm = s.rhythm ∧ s.advance.grade = s.grade ∧ s.advance.link = s.link ∧
    s.advance.pending = s.pending := by
  obtain ⟨x, n, d, e⟩ := State.trackSide.advance s
  rw [e]
  exact ⟨rfl, rfl, rfl, rfl, rfl, rfl, rfl, rfl, rfl, rfl, rfl, rfl, rfl⟩

/-! ## Operations of the blocks -/

theorem foldl_settings {α : Type} {f : State → α → State}
    (h : ∀ t x, (f t x).settings = t.settings ∧ (f t x).store = t.store) (xs : List α) :
    ∀ s : State, (xs.foldl f s).settings = s.settings ∧ (xs.foldl f s).store = s.store := by
  induction xs with
  | nil => intro s; exact ⟨rfl, rfl⟩
  | cons x xs ih =>
    intro s
    rw [List.foldl_cons, (ih _).1, (ih _).2]
    exact h s x

namespace State

variable (s : State)

@[simp] theorem trackIndex_settings : s.trackIndex.settings = s.settings ∧ s.trackIndex.store = s.store := by
  unfold trackIndex
  split <;> simp [advance_frame]

@[simp] theorem indexAcquiring_settings (j : Judgement) (n : Nat) :
    (s.indexAcquiring j n).settings = s.settings ∧ (s.indexAcquiring j n).store = s.store := by
  unfold indexAcquiring lockRhythm
  (repeat' split) <;> simp

@[simp] theorem indexLocked_settings (j : Judgement) (n : Nat) :
    (s.indexLocked j n).settings = s.settings ∧ (s.indexLocked j n).store = s.store := by
  unfold indexLocked
  (repeat' split) <;> simp

@[simp] theorem indexSlipping_settings (j : Judgement) (n : Nat) :
    (s.indexSlipping j n).settings = s.settings ∧ (s.indexSlipping j n).store = s.store := by
  unfold indexSlipping lockRhythm
  (repeat' split) <;> simp

@[simp] theorem judgeEdge_settings : s.judgeEdge.settings = s.settings ∧ s.judgeEdge.store = s.store := by
  unfold judgeEdge indexStopped
  split <;> simp

@[simp] theorem abandonSettle_settings :
    s.abandonSettle.settings = s.settings ∧ s.abandonSettle.store = s.store := ⟨rfl, rfl⟩

@[simp] theorem pressIndex_settings : s.pressIndex.settings = s.settings ∧ s.pressIndex.store = s.store := by
  unfold pressIndex
  split <;> simp [haltRequest_frame, terminate_frame]
  split <;> simp

@[simp] theorem handIndex_settings : s.handIndex.settings = s.settings ∧ s.handIndex.store = s.store := by
  unfold handIndex
  dsimp only
  split <;> simp

@[simp] theorem indexEdge_settings : s.indexEdge.settings = s.settings ∧ s.indexEdge.store = s.store := by
  unfold indexEdge
  split <;> simp

@[simp] theorem warnPress_settings : s.warnPress.settings = s.settings ∧ s.warnPress.store = s.store := by
  unfold warnPress
  split <;> simp [terminate_frame]

@[simp] theorem warnShows_settings (level : Bool) :
    (s.warnShows level).settings = s.settings ∧ (s.warnShows level).store = s.store := by
  unfold warnShows
  dsimp only
  (repeat' split) <;> simp

@[simp] theorem switchesShow_settings (w : Switches) :
    (s.switchesShow w).settings = s.settings ∧ (s.switchesShow w).store = s.store := by
  unfold switchesShow enterDwell
  dsimp only
  split
  · split <;> (try split) <;> simp
  · simp

@[simp] theorem beginStroke_settings : s.beginStroke.settings = s.settings ∧ s.beginStroke.store = s.store := by
  unfold beginStroke enterDwell
  dsimp only
  have h := foldl_settings (f := State.writePressing) (fun t n => by simp [writePressing_frame])
  split <;> simp [h]

@[simp] theorem closeTimedOut_settings :
    s.closeTimedOut.settings = s.settings ∧ s.closeTimedOut.store = s.store := by
  unfold closeTimedOut
  dsimp only
  split <;> simp [haltRequest_frame, terminate_frame]

@[simp] theorem sampleZones_settings (codes : Quad (BitVec 12)) (px : BitVec 10) :
    (s.sampleZones codes px).settings = s.settings ∧ (s.sampleZones codes px).store = s.store := by
  unfold sampleZones
  have h := foldl_settings (f := State.raise) (fun t n => by simp)
  simp [h]

@[simp] theorem strokeTick_settings (codes : Quad (BitVec 12)) (px : BitVec 10) :
    (s.strokeTick codes px).settings = s.settings ∧ (s.strokeTick codes px).store = s.store := by
  unfold strokeTick testSample
  dsimp only
  split
  · (repeat' split) <;> simp [terminate_frame]
  · simp

@[simp] theorem giveRestoreIdle_settings :
    s.giveRestoreIdle.settings = s.settings ∧ s.giveRestoreIdle.store = s.store := by
  simp [giveRestoreIdle, restore_frame]

@[simp] theorem judgePrime_settings : s.judgePrime.settings = s.settings ∧ s.judgePrime.store = s.store := by
  unfold judgePrime
  split
  · simp
  · split <;> simp

@[simp] theorem stopLine_settings : s.stopLine.settings = s.settings ∧ s.stopLine.store = s.store := by
  simp [stopLine, restore_frame, terminateAny_frame]

@[simp] theorem stopPrime_settings : s.stopPrime.settings = s.settings ∧ s.stopPrime.store = s.store := by
  simp [stopPrime, restore_frame]

@[simp] theorem softReset_settings : s.softReset.settings = s.settings ∧ s.softReset.store = s.store := by
  simp [softReset, terminateAny_frame]

@[simp] theorem advertise_settings (mask : GradeSet) :
    (s.advertise mask).settings = s.settings ∧ (s.advertise mask).store = s.store := by
  unfold advertise conflictEvent
  dsimp only
  split <;> simp [recomputeRestoring_frame]

end State

/-! ## Commands -/

/-- A request whose rule leaves the settings and the store leaves them. -/
theorem serve_keeps_settings {i : Instr} {kind : Byte} {p : List Byte} {s t : State} {rule : State → Served}
    (hr : ∀ u, (rule u).1.settings = u.settings ∧ (rule u).1.store = u.store)
    (h : serve i kind p s rule = .next t) : t.settings = s.settings ∧ t.store = s.store := by
  rcases serve_cases i kind p s rule with ⟨-, e⟩ | ⟨-, -, e⟩ | ⟨-, -, e⟩ <;> rw [e] at h <;> cases h
  · exact ⟨rfl, rfl⟩
  · exact ⟨rfl, rfl⟩
  · exact hr s.frameTaken

/-- The same of a request that may be broadcast. -/
theorem serveTo_keeps_settings {dest : Dest} {i : Instr} {kind : Byte} {p : List Byte} {s t : State}
    {rule : State → Served} (hr : ∀ u, (rule u).1.settings = u.settings ∧ (rule u).1.store = u.store)
    (h : serveTo dest i kind p s rule = .next t) : t.settings = s.settings ∧ t.store = s.store := by
  rcases serveTo_cases dest i kind p s rule with ⟨-, e⟩ | ⟨-, -, e⟩ | ⟨-, -, -, e⟩ | ⟨-, -, -, e⟩ <;> rw [e] at h
  · exact serve_keeps_settings hr h
  · cases h
    exact ⟨rfl, rfl⟩
  · cases h
    exact ⟨rfl, rfl⟩
  · cases h
    exact hr s.frameTaken

theorem takeTrackRequest_settings (r : TrackRequest) (s : State) :
    ∃ t, takeTrackRequest r s = .next t ∧ t.settings = s.settings ∧ t.store = s.store := by
  obtain ⟨t, ht, e, -⟩ := takeTrackRequest_frame r s
  exact ⟨t, ht, (congrArg State.settings e :), (congrArg State.store e :)⟩

theorem takeTrackRequest_keeps_settings {r : TrackRequest} {s t : State} (h : takeTrackRequest r s = .next t) :
    t.settings = s.settings ∧ t.store = s.store := by
  obtain ⟨u, hu, e⟩ := takeTrackRequest_settings r s
  cases hu.symm.trans h
  exact e

theorem execIndexEvent_keeps_settings {edge : IndexEdge} {s t : State} (h : execIndexEvent edge s = .next t) :
    t.settings = s.settings ∧ t.store = s.store := by
  unfold execIndexEvent at h
  dsimp only at h
  split at h
  · cases h
    simp
  · next r _ =>
    split at h
    · obtain ⟨u, hu, e1, e2⟩ := takeTrackRequest_settings r (s.elapse edge.after).judgeEdge.restartStall.trackIndex
      rw [hu] at h
      cases h
      simp [e1, e2]
    · simpa using takeTrackRequest_keeps_settings h

/-- The commands that may write the working settings, the stored copy or `store_valid`. -/
def writesSettings (i : Instr) : Bool :=
  match i with
  | .configureLine _ | .writeRecipe _ | .assignRecipe _ | .writeRule _ | .setNoticeMask _ | .setReturnSize _
  | .storeSettings _ | .recallSettings _ | .storeComplete | .powerOn | .powerLoss | .pinReset
  | .settingsLoad _ _ => true
  | _ => false

/-- Every other command leaves the settings and the store as they are. -/
theorem exec_keeps_settings {i : Instr} {s t : State} (hi : writesSettings i = false) (h : exec i s = .next t) :
    t.settings = s.settings ∧ t.store = s.store := by
  cases i with
  | configureLine | writeRecipe | assignRecipe | writeRule | setNoticeMask | setReturnSize | storeSettings
  | recallSettings | storeComplete | powerOn | powerLoss | pinReset | settingsLoad => cases hi
  | identify p => exact serve_keeps_settings (fun u => ⟨rfl, rfl⟩) (show execIdentify p s = .next t from h)
  | status p => exact serve_keeps_settings (fun u => ⟨rfl, rfl⟩) (show execStatus p s = .next t from h)
  | clearFlags p =>
    exact serve_keeps_settings (fun u => by split <;> exact ⟨rfl, rfl⟩) (show execClearFlags p s = .next t from h)
  | fetchNotice p =>
    exact serve_keeps_settings (fun u => by dsimp only; split <;> exact ⟨rfl, rfl⟩)
      (show execFetchNotice p s = .next t from h)
  | readLine p =>
    exact serve_keeps_settings (fun u => by split <;> exact ⟨rfl, rfl⟩) (show execReadLine p s = .next t from h)
  | readRecipe p =>
    refine serve_keeps_settings (fun u => ?_) (show execReadRecipe p s = .next t from h)
    repeat' split
    all_goals exact ⟨rfl, rfl⟩
  | readRule p =>
    refine serve_keeps_settings (fun u => ?_) (show execReadRule p s = .next t from h)
    repeat' split
    all_goals exact ⟨rfl, rfl⟩
  | advertiseGrades p =>
    exact serve_keeps_settings (fun u => by (repeat' split) <;> simp [refuse])
      (show execAdvertiseGrades p s = .next t from h)
  | restoreGrade p =>
    exact serve_keeps_settings (fun u => by (repeat' split) <;> simp [refuse, State.restore_frame])
      (show execRestoreGrade p s = .next t from h)
  | start p =>
    refine serve_keeps_settings (fun u => ?_) (show execStart p s = .next t from h)
    unfold startIdle
    repeat' split
    all_goals exact ⟨rfl, rfl⟩
  | stop dest p =>
    exact serveTo_keeps_settings (fun u => by split <;> simp [refuse]) (show execStop dest p s = .next t from h)
  | resume p =>
    refine serve_keeps_settings (fun u => ?_) (show execResume p s = .next t from h)
    repeat' split
    all_goals exact ⟨rfl, rfl⟩
  | softReset dest p =>
    exact serveTo_keeps_settings (fun u => by (repeat' split) <;> simp [refuse])
      (show execSoftReset dest p s = .next t from h)
  | reportFill p => exact takeTrackRequest_keeps_settings (r := .reportFill p) h
  | reportPlace p => exact takeTrackRequest_keeps_settings (r := .reportPlace p) h
  | reportVision p => exact takeTrackRequest_keeps_settings (r := .reportVision p) h
  | lookup p => exact takeTrackRequest_keeps_settings (r := .lookup p) h
  | markCard p => exact takeTrackRequest_keeps_settings (r := .markCard p) h
  | markWindow p => exact takeTrackRequest_keeps_settings (r := .markWindow p) h
  | readWindow p => exact takeTrackRequest_keeps_settings (r := .readWindow p) h
  | setWindow p =>
    exact serve_keeps_settings (fun u => by dsimp only; (repeat' split) <;> exact ⟨rfl, rfl⟩)
      (show execSetWindow p s = .next t from h)
  | nextChunk p =>
    refine serve_keeps_settings (fun u => ?_) (show execNextChunk p s = .next t from h)
    repeat' split
    all_goals exact ⟨rfl, rfl⟩
  | abort p =>
    refine serve_keeps_settings (fun u => ?_) (show execAbort p s = .next t from h)
    repeat' split
    all_goals exact ⟨rfl, rfl⟩
  | latchCounts dest p =>
    exact serveTo_keeps_settings (fun u => by (repeat' split) <;> exact ⟨rfl, rfl⟩)
      (show execLatchCounts dest p s = .next t from h)
  | readCounts p =>
    exact serve_keeps_settings (fun u => by split <;> exact ⟨rfl, rfl⟩) (show execReadCounts p s = .next t from h)
  | clearCounts p =>
    exact serve_keeps_settings (fun u => by split <;> exact ⟨rfl, rfl⟩) (show execClearCounts p s = .next t from h)
  | unknownKind | frameCrcDiscard | foreignFrame | broadcastIgnored | frameOverrunDiscard | lineIdleArmed
  | frameGapTimeout | linkByteReceived =>
    cases h
    split <;> exact ⟨rfl, rfl⟩
  | replyAbandoned =>
    cases h
    split
    · split <;> exact ⟨rfl, rfl⟩
    all_goals exact ⟨rfl, rfl⟩
  | replySent =>
    cases h
    split <;> exact ⟨rfl, rfl⟩
  | replyBegin =>
    cases h
    split
    · split <;> exact ⟨rfl, rfl⟩
    all_goals exact ⟨rfl, rfl⟩
  | indexEvent edge => exact execIndexEvent_keeps_settings h
  | warnEdge after level =>
    cases h
    simp
  | closedConfirmation after sw =>
    cases h
    simp
  | openConfirmation after sw =>
    cases h
    simp
  | settleExpiry =>
    cases h
    dsimp only
    split
    · (repeat' split) <;> simp
    · simp
  | closeTimeout =>
    cases h
    split
    · (repeat' split) <;> simp
    · simp
  | openTimeout =>
    cases h
    dsimp only
    split
    · (repeat' split) <;> simp [State.haltRequest_frame]
    · simp
  | samplingTick codes px =>
    cases h
    split <;> simp
  | predictedDeadline =>
    cases h
    split
    · (repeat' split) <;> simp [State.terminateAny_frame]
    · simp
  | stall =>
    cases h
    split <;> simp
  | restoreIdleSignal =>
    cases h
    split
    · (repeat' split) <;> simp
    · simp
  | primeEnd =>
    cases h
    split
    · (repeat' split) <;> simp
    · simp
  | flapDue o =>
    cases h
    dsimp only
    split
    · (repeat' split) <;> simp
    · simp
  | flapPulseEnd o =>
    cases h
    dsimp only
    split
    · (repeat' split) <;> simp
    · simp
  | resetRelease =>
    cases h
    split <;> simp

end Sys2Proof.Machine
end

section
/-! # The working settings stay legal (01 R1, R2, R10; 10 R181) -/

namespace Sys2Proof.Machine

/-! ## Clamped values and the fields of a payload -/

theorem le_clamp {lo hi : Nat} (h : lo ≤ hi) (n : Nat) : lo ≤ clamp lo hi n := by
  unfold clamp
  (repeat' split) <;> omega

theorem clamp_le {lo hi : Nat} (h : lo ≤ hi) (n : Nat) : clamp lo hi n ≤ hi := by
  unfold clamp
  (repeat' split) <;> omega

theorem clamp_eq_self {lo hi n : Nat} (h : lo ≤ n ∧ n ≤ hi) : clamp lo hi n = n := by
  unfold clamp
  (repeat' split) <;> omega

theorem byteAt_lt (p : List Byte) (i : Nat) : byteAt p i < 256 := (p.getD i 0#8).isLt

theorem wordAt_le (p : List Byte) (i : Nat) : wordAt p i ≤ 65535 := by
  have h1 := byteAt_lt p i
  have h2 := byteAt_lt p (i + 1)
  unfold wordAt
  omega

/-! ## The line configuration -/

/-- Every field value is brought into its range (01 R5). -/
theorem setLineField_inRange (n : Nat) (v : List Byte) {c : LineConfig} (h : c.inRange) :
    (setLineField n v c).1.inRange := by
  unfold LineConfig.inRange at h
  unfold setLineField
  split <;> simp (disch := decide) only [LineConfig.inRange, clampInto, Quad.map, le_clamp, clamp_le, h, and_self]

theorem takeField_inRange (mask n : Nat) {k : Candidate} (h : k.line.inRange) :
    (takeField mask k n).line.inRange := by
  unfold takeField
  split
  · exact setLineField_inRange n _ h
  · exact h

theorem buildCandidate_inRange (mask : Nat) (values : List Byte) {c : LineConfig} (h : c.inRange) :
    (buildCandidate mask values c).line.inRange := by
  unfold buildCandidate
  suffices ∀ (ns : List Nat) (k : Candidate), k.line.inRange → (ns.foldl (takeField mask) k).line.inRange from
    this _ _ h
  intro ns
  induction ns with
  | nil => exact fun k hk => hk
  | cons n ns ih => exact fun k hk => ih _ (takeField_inRange mask n hk)

/-! ## Recipes -/

/-- A recipe that passes steps 4 to 6 of 01 R12 is legal. -/
theorem recipeOf_legal {f : List Byte} (hg : ¬(byteAt f 17 = 0 ∨ 15 < byteAt f 17))
    (hdose : ¬((recipeOf f).doseTarget < (recipeOf f).doseMin ∨ (recipeOf f).doseMax < (recipeOf f).doseTarget))
    (hdwell : ¬(recipeOf f).dwellMax < (recipeOf f).dwellMin) : (recipeOf f).legal := by
  have hgrades : BitVec.ofNat 4 (byteAt f 17) ≠ 0#4 := by
    intro h
    have := congrArg BitVec.toNat h
    simp only [BitVec.toNat_ofNat] at this
    omega
  have hdwellMin : 1 ≤ (recipeOf f).dwellMin := le_clamp (by decide) _
  have hdwellMax : (recipeOf f).dwellMax ≤ 250 := clamp_le (by decide) _
  exact ⟨⟨le_clamp (lo := 320) (by decide) _, clamp_le (hi := 1000) (by decide) _⟩,
    ⟨le_clamp (lo := 64) (by decide) _, clamp_le (hi := 1023) (by decide) _⟩,
    ⟨by omega, by omega, wordAt_le f 9⟩, ⟨hdwellMin, by omega, hdwellMax⟩, clamp_le (lo := 0) (hi := 15) (by decide) _,
    clamp_le (lo := 0) (hi := 127) (by decide) _, hgrades⟩

theorem Settings.setRecipe_legal {st : Settings} (h : st.legal) (n : Fin 16) {r : Recipe} (hr : r.legal) :
    (st.setRecipe n r).legal := by
  obtain ⟨hrange, hcons, hrecipes, hsize⟩ := h
  refine ⟨hrange, hcons, fun x hx => ?_, hsize⟩
  rw [Settings.setRecipe, Vector.toList_set] at hx
  rcases List.mem_or_eq_of_mem_set hx with hmem | rfl
  · exact hrecipes x hmem
  · exact hr

theorem defaultSettings_legal : defaultSettings.legal := by
  refine ⟨by unfold LineConfig.inRange; decide, by unfold LineConfig.consistent; decide, fun r hr => ?_, by decide⟩
  have e : r = defaultRecipe := by
    simpa [defaultSettings, Vector.toList_replicate] using hr
  rw [e]
  unfold Recipe.legal
  decide

/-! ## New settings handed on -/

/-- New settings are installed, the track is rebuilt, and but for these the selector, the rhythm and the
notices alone move (01 R7). -/
theorem State.installSettings_frame (s : State) (st : Settings) :
    (s.installSettings st).now = s.now ∧ (s.installSettings st).phase = s.phase ∧
    (s.installSettings st).pins = s.pins ∧ (s.installSettings st).settings = st ∧
    (s.installSettings st).store = s.store ∧ (s.installSettings st).mode = s.mode ∧
    (s.installSettings st).track = (s.setSettings st).rebuildTrack.track ∧
    (s.installSettings st).zones = s.zones ∧ (s.installSettings st).press = s.press ∧
    (s.installSettings st).discharge = s.discharge ∧ (s.installSettings st).link = s.link := by
  unfold State.installSettings
  dsimp only
  split <;> simp [State.restoreIdleIfDue_frame, State.periodChange_frame]

/-- A recipe is written, and but for the settings the selector, the rhythm and the notices alone move
(01 R13). -/
theorem State.writeRecipe_frame (s : State) (n : Fin 16) (r : Recipe) :
    (s.writeRecipe n r).settings = s.settings.setRecipe n r ∧ (s.writeRecipe n r).store = s.store ∧
    (s.writeRecipe n r).mode = s.mode ∧ (s.writeRecipe n r).track = s.track ∧
    (s.writeRecipe n r).zones = s.zones ∧ (s.writeRecipe n r).press = s.press ∧
    (s.writeRecipe n r).discharge = s.discharge ∧ (s.writeRecipe n r).link = s.link := by
  unfold State.writeRecipe
  dsimp only
  split <;> simp [State.handGrade_frame]

/-! ## The commands that write the settings or the store -/

/-- A property that a request's rule keeps, and that does not speak of the Link Port, the request keeps. -/
theorem serve_preserves {P : State → Prop} (hlink : ∀ u x, P u → P (u.setLink x)) {i : Instr} {kind : Byte}
    {p : List Byte} {s t : State} {rule : State → Served} (hr : ∀ u, P u → P (rule u).1) (hs : P s)
    (h : serve i kind p s rule = .next t) : P t := by
  rcases serve_cases i kind p s rule with ⟨-, e⟩ | ⟨-, -, e⟩ | ⟨-, -, e⟩ <;> rw [e] at h <;> cases h
  · exact hs
  · exact hlink s _ hs
  · exact hlink _ _ (hr _ (hlink s _ hs))

theorem State.settingsLegal.of_eq {s t : State} (h : s.settingsLegal)
    (e : t.settings = s.settings ∧ t.store = s.store) : t.settingsLegal := by
  unfold State.settingsLegal
  rw [e.1, e.2]
  exact h

theorem State.settingsLegal_setLink (s : State) (x : LinkUnit) (h : s.settingsLegal) :
    (s.setLink x).settingsLegal := h

/-- A CONFIGURE LINE changes nothing, or hands on a candidate that passes the check (01 R6, R7). -/
theorem configureLineRule_cases (p : List Byte) (s : State) :
    (configureLineRule p s).1 = s ∨
    (let k := buildCandidate (beNat (p.take 4)) (p.drop 4) s.settings.line
     lineCheck k.line = 0 ∧ (configureLineRule p s).1 = s.installSettings { s.settings with line := k.line }) := by
  simp only [configureLineRule, refuse]
  iterate 4
    split
    · exact .inl rfl
  split
  · exact .inl rfl
  · exact .inr ⟨Classical.not_not.mp ‹_›, rfl⟩

theorem configureLineRule_settingsLegal (p : List Byte) (u : State) (h : u.settingsLegal) :
    (configureLineRule p u).1.settingsLegal := by
  rcases configureLineRule_cases p u with e | ⟨hcheck, e⟩ <;> rw [e]
  · exact h
  · obtain ⟨⟨hrange, hcons, hrest⟩, hstored⟩ := h
    simp only [State.settingsLegal, State.installSettings_frame]
    exact ⟨⟨buildCandidate_inRange _ _ hrange, (lineCheck_eq_zero_iff _).mp hcheck, hrest⟩, hstored⟩

/-- A WRITE RECIPE changes nothing, or writes a recipe that passes steps 4 and 6 of 01 R12. -/
theorem writeRecipeRule_cases (p : List Byte) (s : State) :
    (writeRecipeRule p s).1 = s ∨
    (recipeOf (p.drop 1)).legal ∧ ∃ n, (writeRecipeRule p s).1 = s.writeRecipe n (recipeOf (p.drop 1)) := by
  simp only [writeRecipeRule, refuse, refuseField]
  split
  · exact .inl rfl
  · iterate 3
      split
      · exact .inl rfl
    split
    · exact .inl rfl
    · next hgrades =>
      split
      · exact .inl rfl
      · next hdose =>
        split
        · exact .inl rfl
        · next hdwell => exact .inr ⟨recipeOf_legal hgrades hdose hdwell, _, rfl⟩

theorem writeRecipeRule_settingsLegal (p : List Byte) (u : State) (h : u.settingsLegal) :
    (writeRecipeRule p u).1.settingsLegal := by
  rcases writeRecipeRule_cases p u with e | ⟨hr, n, e⟩ <;> rw [e]
  · exact h
  · simp only [State.settingsLegal, State.writeRecipe_frame]
    exact ⟨Settings.setRecipe_legal h.1 n hr, h.2⟩

theorem assignRecipeRule_settingsLegal (p : List Byte) (u : State) (h : u.settingsLegal) :
    (assignRecipeRule p u).1.settingsLegal := by
  unfold assignRecipeRule
  split
  · iterate 4
      split
      · exact h
    simp only [State.settingsLegal, State.recomputeRestoring_frame]
    exact h
  all_goals exact h

theorem writeRuleRule_settingsLegal (p : List Byte) (u : State) (h : u.settingsLegal) :
    (writeRuleRule p u).1.settingsLegal := by
  unfold writeRuleRule
  repeat' split
  all_goals exact h

theorem StoreUnit.broken_stored {k : StoreUnit} {st : Settings} (h : st ∈ k.broken.stored) : st ∈ k.stored := by
  unfold StoreUnit.broken at h
  split at h
  · cases h
  · exact h

@[simp] theorem State.assertReset_settings (s : State) :
    s.assertReset.settings = s.settings ∧ s.assertReset.store = s.store.broken := by simp [State.assertReset]

theorem State.assertReset_settingsLegal {s : State} (h : s.settingsLegal) : s.assertReset.settingsLegal := by
  simp only [State.settingsLegal, State.assertReset_settings]
  exact ⟨h.1, fun st hst => h.2 st (StoreUnit.broken_stored hst)⟩

theorem State.losePower_settingsLegal {s : State} (h : s.settingsLegal) : s.losePower.settingsLegal := by
  refine (State.assertReset_settingsLegal h).of_eq ?_
  simp [State.losePower, State.clearCounts]

/-- A settings load installs the stored copy, or the defaults where it is bad (10 R185). -/
theorem State.finishLoad_settings (s : State) (k : ResetKind) (a : BitVec 5) (r : BitVec 2) :
    (s.finishLoad k a r).settings = s.store.stored.getD defaultSettings ∧
    (s.finishLoad k a r).store.stored = s.store.stored := by
  unfold State.finishLoad
  dsimp only
  split <;> exact ⟨rfl, rfl⟩

theorem State.finishLoad_settingsLegal {s : State} (h : s.settingsLegal) (k : ResetKind) (a : BitVec 5)
    (r : BitVec 2) : (s.finishLoad k a r).settingsLegal := by
  obtain ⟨hset, hstore⟩ := s.finishLoad_settings k a r
  refine ⟨?_, by rw [hstore]; exact h.2⟩
  rw [hset]
  cases hc : s.store.stored with
  | none => exact defaultSettings_legal
  | some st => exact h.2 st hc

/-- Every command keeps the settings legal. -/
theorem exec_settingsLegal {i : Instr} {s t : State} (hs : s.settingsLegal) (h : exec i s = .next t) :
    t.settingsLegal := by
  by_cases hi : writesSettings i = false
  · exact hs.of_eq (exec_keeps_settings hi h)
  have keep := @serve_preserves State.settingsLegal State.settingsLegal_setLink
  cases i with
  | configureLine p =>
    exact keep (configureLineRule_settingsLegal p) hs (show execConfigureLine p s = .next t from h)
  | writeRecipe p => exact keep (writeRecipeRule_settingsLegal p) hs (show execWriteRecipe p s = .next t from h)
  | assignRecipe p => exact keep (assignRecipeRule_settingsLegal p) hs (show execAssignRecipe p s = .next t from h)
  | writeRule p => exact keep (writeRuleRule_settingsLegal p) hs (show execWriteRule p s = .next t from h)
  | setNoticeMask p =>
    refine keep (fun u hu => ?_) hs (show execSetNoticeMask p s = .next t from h)
    (repeat' split) <;> exact hu
  | setReturnSize p =>
    refine keep (fun u hu => ?_) hs (show execSetReturnSize p s = .next t from h)
    iterate 2
      split
      · exact hu
    obtain ⟨⟨hrange, hcons, hrecipes, -⟩, hstored⟩ := hu
    exact ⟨⟨hrange, hcons, hrecipes, le_clamp (by decide) _, clamp_le (by decide) _⟩, hstored⟩
  | storeSettings p =>
    refine keep (fun u hu => ?_) hs (show execStoreSettings p s = .next t from h)
    iterate 2
      split
      · exact hu
    exact ⟨hu.1, fun st hst => by cases hst⟩
  | recallSettings p =>
    refine keep (fun u hu => ?_) hs (show execRecallSettings p s = .next t from h)
    iterate 3
      split
      · exact hu
    split
    · exact hu
    · next st hst =>
      simp only [State.settingsLegal, State.installSettings_frame]
      exact ⟨hu.2 st hst, hu.2⟩
  | storeComplete =>
    cases h
    split
    · exact ⟨hs.1, fun st hst => by cases hst; exact hs.1⟩
    · exact hs
  | powerOn =>
    cases h
    exact (State.losePower_settingsLegal hs).of_eq (by simp)
  | powerLoss =>
    cases h
    exact State.losePower_settingsLegal hs
  | pinReset =>
    cases h
    split
    · exact hs
    · exact (State.assertReset_settingsLegal hs).of_eq (by simp)
  | settingsLoad address rate =>
    cases h
    split
    · exact State.finishLoad_settingsLegal hs _ _ _
    all_goals exact hs
  | _ => exact absurd rfl hi

end Sys2Proof.Machine

namespace Sys2Proof.Proofs

open Sys2Proof.Machine

/-- Settles O50: a step runs a command on the queue's rest, or moves the clock alone. -/
theorem settingsStayLegal : Obligations.SettingsStayLegal := by
  intro s t hs h
  unfold step at h
  split at h
  · next i rest _ => exact exec_settingsLegal (s := s.setPending rest) hs h
  · cases h
    exact hs

end Sys2Proof.Proofs
end

section
/-! # The line configuration read back (01 R4, R5, R9) -/

namespace Sys2Proof.Machine

/-! ## Numbers in one and two bytes (00_scope.md section 5.4) -/

theorem toNat_byte {x : Nat} (h : x < 256) : (byte x).toNat = x := by
  rw [byte, BitVec.toNat_ofNat]
  exact Nat.mod_eq_of_lt h

theorem beNat_byte {x : Nat} (h : x < 256) : beNat [byte x] = x := by
  simp [beNat, toNat_byte h]

theorem toNat_be16 {x : Nat} (h : x < 65536) : (byte (x / 256)).toNat * 256 + (byte x).toNat = x := by
  rw [toNat_byte (by omega), byte, BitVec.toNat_ofNat]
  omega

theorem beNat_be16 {x : Nat} (h : x < 65536) : beNat (be16 x) = x := by
  simp [beNat, be16, toNat_be16 h]

/-! ## One field -/

theorem clampInto_byte {lo hi x : Nat} (put : Nat → LineConfig) (h : lo ≤ x ∧ x ≤ hi) (hhi : hi < 256) :
    clampInto lo hi [byte x] put = (put x, false) := by
  rw [clampInto, beNat_byte (by omega), clamp_eq_self h]
  simp

theorem clampInto_be16 {lo hi x : Nat} (put : Nat → LineConfig) (h : lo ≤ x ∧ x ≤ hi) (hhi : hi < 65536) :
    clampInto lo hi (be16 x) put = (put x, false) := by
  rw [clampInto, beNat_be16 (by omega), clamp_eq_self h]
  simp

theorem zoneMapOf_bytes (m : Quad Zone) : zoneMapOf (m.toList.map fun z => byte z.number) = m := by
  have h (z : Zone) : zoneOfCode (byte z.number).toNat = z := by cases z <;> rfl
  obtain ⟨a, b, c, d⟩ := m
  simp [zoneMapOf, Quad.toList, byteAt, h]

theorem zoneMap_bytes_le (m : Quad Zone) :
    ((m.toList.map fun z => byte z.number).any fun b => decide (3 < b.toNat)) = false := by
  have h (z : Zone) : (byte z.number).toNat ≤ 3 := by cases z <;> decide
  simp [Quad.toList, h]

theorem periodsOf_bytes {e : Quad Nat} (h0 : e.q0 < 65536) (h1 : e.q1 < 65536) (h2 : e.q2 < 65536)
    (h3 : e.q3 < 65536) : periodsOf (e.toList.flatMap be16) = e := by
  obtain ⟨a, b, c, d⟩ := e
  simp only [periodsOf, Quad.toList, be16, List.flatMap_cons, List.flatMap_nil, List.cons_append, List.nil_append,
    wordAt, byteAt, List.getD_cons_zero, List.getD_cons_succ, toNat_be16 h0, toNat_be16 h1, toNat_be16 h2,
    toNat_be16 h3]

/-- Field `n` of a line configuration taken from another. -/
def LineConfig.copyField (c : LineConfig) (l : LineConfig) (n : Nat) : LineConfig :=
  match n with
  | 0 => { l with lanes := c.lanes }
  | 1 => { l with pPlace := c.pPlace }
  | 2 => { l with pSeal := c.pSeal }
  | 3 => { l with pVision := c.pVision }
  | 4 => { l with pGate := c.pGate }
  | 5 => { l with dFill := c.dFill }
  | 6 => { l with dPlace := c.dPlace }
  | 7 => { l with dVision := c.dVision }
  | 8 => { l with zoneMap := c.zoneMap }
  | 9 => { l with periods := c.periods }
  | 10 => { l with tol := c.tol }
  | 11 => { l with lockCount := c.lockCount }
  | 12 => { l with slipLimit := c.slipLimit }
  | 13 => { l with releaseLead := c.releaseLead }
  | 14 => { l with settle := c.settle }
  | 15 => { l with closeTimeout := c.closeTimeout }
  | 16 => { l with openTimeout := c.openTimeout }
  | 17 => { l with unlockedDwellCap := c.unlockedDwellCap }
  | 18 => { l with warnInUse := c.warnInUse }
  | 19 => { l with strikeLimit := c.strikeLimit }
  | 20 => { l with cleanRun := c.cleanRun }
  | 21 => { l with recoverRun := c.recoverRun }
  | 22 => { l with restoreIdle := c.restoreIdle }
  | 23 => { l with gateDelay := c.gateDelay }
  | 24 => { l with gatePulse := c.gatePulse }
  | 25 => { l with sampleDelay := c.sampleDelay }
  | 26 => { l with samplePulse := c.samplePulse }
  | 27 => { l with unknownPolicy := c.unknownPolicy }
  | _ => l

/-- The 28 fields are the whole record. -/
theorem LineConfig.foldl_copyField (c base : LineConfig) : (List.range 28).foldl c.copyField base = c := by
  simp [List.range, List.range.loop, LineConfig.copyField]

/-- The bytes of a field in range put that field, unclamped. -/
theorem setLineField_lineFieldBytes {c : LineConfig} (h : c.inRange) (l : LineConfig) {n : Nat} (hn : n < 28) :
    setLineField n (lineFieldBytes n c) l = (c.copyField l n, false) := by
  obtain ⟨hpPlace, hpSeal, hpVision, hpGate, hdFill, hdPlace, hdVision, hq0, hq1, hq2, hq3, htol, hlock, hslip,
    hlead, hsettle, hclose, hopen, hcap, hstrike, hclean, hrecover, hidle, hgDelay, hgPulse, hsDelay, hsPulse⟩ := h
  unfold setLineField
  split
  · have hl : c.lanes.toNat < 16 := c.lanes.isLt
    have hb : ¬ 15 < c.lanes.toNat := by omega
    simp [lineFieldBytes, LineConfig.copyField, beNat_byte (show c.lanes.toNat < 256 by omega), hb]
  · exact clampInto_byte _ hpPlace (by decide)
  · exact clampInto_byte _ hpSeal (by decide)
  · exact clampInto_byte _ hpVision (by decide)
  · exact clampInto_byte _ hpGate (by decide)
  · exact clampInto_byte _ hdFill (by decide)
  · exact clampInto_byte _ hdPlace (by decide)
  · exact clampInto_byte _ hdVision (by decide)
  · simp only [lineFieldBytes, LineConfig.copyField, zoneMapOf_bytes, zoneMap_bytes_le]
  · have he : periodsOf (lineFieldBytes 9 c) = c.periods :=
      periodsOf_bytes (by omega) (by omega) (by omega) (by omega)
    simp [he, LineConfig.copyField, Quad.map, Quad.toList, clamp_eq_self hq0, clamp_eq_self hq1, clamp_eq_self hq2, clamp_eq_self hq3]
  · exact clampInto_byte _ htol (by decide)
  · exact clampInto_byte _ hlock (by decide)
  · exact clampInto_byte _ hslip (by decide)
  · exact clampInto_be16 _ ⟨Nat.zero_le _, hlead⟩ (by decide)
  · exact clampInto_be16 _ ⟨Nat.zero_le _, hsettle⟩ (by decide)
  · exact clampInto_be16 _ hclose (by decide)
  · exact clampInto_be16 _ hopen (by decide)
  · exact clampInto_byte _ hcap (by decide)
  · simp only [lineFieldBytes, LineConfig.copyField]
    cases c.warnInUse <;> rfl
  · exact clampInto_byte _ hstrike (by decide)
  · exact clampInto_byte _ hclean (by decide)
  · exact clampInto_be16 _ ⟨Nat.zero_le _, hrecover⟩ (by decide)
  · exact clampInto_be16 _ hidle (by decide)
  · exact clampInto_be16 _ ⟨Nat.zero_le _, hgDelay⟩ (by decide)
  · exact clampInto_be16 _ hgPulse (by decide)
  · exact clampInto_be16 _ ⟨Nat.zero_le _, hsDelay⟩ (by decide)
  · exact clampInto_be16 _ hsPulse (by decide)
  · simp only [lineFieldBytes, LineConfig.copyField]
    cases c.unknownPolicy <;> rfl
  · simp only [imp_false] at *
    omega

theorem length_lineFieldBytes (c : LineConfig) {n : Nat} (hn : n < 28) :
    (lineFieldBytes n c).length = lineFieldSize n := by
  unfold lineFieldBytes
  split
  case h_29 =>
    simp only [imp_false] at *
    omega
  all_goals rfl

/-! ## All fields -/

/-- A field the mask names, its bytes first in line, is copied and its bytes are used up. -/
theorem takeField_lineFieldBytes {c : LineConfig} (h : c.inRange) {mask n : Nat} (hn : n < 28)
    (hmask : mask.testBit n = true) (l : LineConfig) (rest : List Byte) :
    takeField mask ⟨l, 0#32, lineFieldBytes n c ++ rest⟩ n = ⟨c.copyField l n, 0#32, rest⟩ := by
  have hlen := length_lineFieldBytes c hn
  simp only [takeField, hmask, if_true, List.take_left' hlen, List.drop_left' hlen,
    setLineField_lineFieldBytes h l hn, Bool.false_eq_true, if_false]

/-- Fields the mask names, their bytes in line, are copied one by one. -/
theorem foldl_takeField_lineFieldBytes {c : LineConfig} (h : c.inRange) {mask : Nat} :
    ∀ (ns : List Nat) (l : LineConfig), (∀ n ∈ ns, n < 28 ∧ mask.testBit n = true) →
      ns.foldl (takeField mask) ⟨l, 0#32, ns.flatMap fun n => lineFieldBytes n c⟩ =
        ⟨ns.foldl c.copyField l, 0#32, []⟩
  | [], _, _ => rfl
  | n :: ns, l, hns => by
    obtain ⟨⟨hn, hmask⟩, hrest⟩ := List.forall_mem_cons.mp hns
    rw [List.flatMap_cons, List.foldl_cons, takeField_lineFieldBytes h hn hmask,
      foldl_takeField_lineFieldBytes h ns _ hrest, List.foldl_cons]

theorem length_lineBytes (c : LineConfig) : (lineBytes c).length = 48 := by
  have h : (List.range 28).map (fun n => (lineFieldBytes n c).length) = (List.range 28).map lineFieldSize :=
    List.map_congr_left fun n hn => length_lineFieldBytes c (List.mem_range.mp hn)
  rw [lineBytes, List.length_flatMap, h]
  rfl

end Sys2Proof.Machine

namespace Sys2Proof.Proofs

open Sys2Proof.Machine

/-- Settles O5: each field is copied unclamped, and the 28 fields are the whole record. -/
theorem lineRecordRoundTrips : Obligations.LineRecordRoundTrips := by
  intro c base hc
  refine ⟨length_lineBytes c, ?_⟩
  have hmask : ∀ n ∈ List.range 28, n < 28 ∧ (2 ^ 28 - 1).testBit n = true := by decide
  rw [buildCandidate, lineBytes, foldl_takeField_lineFieldBytes hc _ base hmask, c.foldl_copyField]

end Sys2Proof.Proofs
end

section
/-! # Requests answered BUSY, and what is judged before (01 R12, R14, R16; 08 R141, R142; 09 R156; 10 R183) -/

namespace Sys2Proof.Machine

/-- The request that its destination, kind and payload spell (11 R187). -/
theorem requestOf_of_requestParts {i : Instr} {dest : Dest} {kind : Byte} {p : List Byte}
    (h : requestParts i = some (dest, kind, p)) : requestOf dest kind p = some i := by
  cases i <;> cases h <;> rfl

theorem indexOfCode_eq_some {n size : Nat} (h : n < size) : indexOfCode n size = some ⟨n, h⟩ := dif_pos h

theorem laneOfCode_eq_some {n : Nat} (h : n ≤ 3) : ∃ l, laneOfCode n = some l ∧ l.number = n := by
  match n with
  | 0 => exact ⟨.a, rfl, rfl⟩
  | 1 => exact ⟨.b, rfl, rfl⟩
  | 2 => exact ⟨.c, rfl, rfl⟩
  | 3 => exact ⟨.d, rfl, rfl⟩
  | _ + 4 => omega

/-! ## The rules that judge a number before the mode -/

section Rules

variable {p : List Byte} {s : State}

theorem writeRecipeRule_out_of_range (hn : 15 < byteAt p 0) : writeRecipeRule p s = refuseField s 0 := by
  rw [writeRecipeRule, indexOfCode_eq_none hn]

theorem writeRuleRule_out_of_range (hn : 7 < byteAt p 0) : writeRuleRule p s = refuseField s 0 := by
  rw [writeRuleRule, indexOfCode_eq_none hn]

/-- A lane above D, a number above 15 and a recipe that is not valid are answered RANGE (01 R16 steps 1, 2). -/
theorem assignRecipeRule_out_of_range (h : 3 < byteAt p 0 ∨ 15 < byteAt p 1 ∨
    ∃ n : Fin 16, n.val = byteAt p 1 ∧ (s.settings.recipe n).valid = false) :
    assignRecipeRule p s = refuse s .range := by
  unfold assignRecipeRule
  rcases h with hl | hn | ⟨n, hn, hv⟩
  · rw [laneOfCode_eq_none hl]
    cases indexOfCode (byteAt p 1) 16 <;> rfl
  · rw [indexOfCode_eq_none hn]
    cases laneOfCode (byteAt p 0) <;> rfl
  · rw [← hn, indexOfCode_val]
    cases laneOfCode (byteAt p 0) with
    | none => rfl
    | some l => exact if_pos hv

theorem writeRecipeRule_busy (hn : byteAt p 0 ≤ 15) (h : s.mode.mode = .starting ∨ s.storing) :
    writeRecipeRule p s = refuse s .busy := by
  rw [writeRecipeRule, indexOfCode_eq_some (Nat.lt_succ_of_le hn)]
  rcases h with hm | hb
  · exact if_pos (State.starting_iff.mpr hm)
  · simp only [if_pos (show s.store.busy = true from hb), ite_self]

theorem writeRuleRule_busy (hn : byteAt p 0 ≤ 7) (h : s.mode.mode = .starting ∨ s.storing) :
    writeRuleRule p s = refuse s .busy := by
  rw [writeRuleRule, indexOfCode_eq_some (Nat.lt_succ_of_le hn)]
  rcases h with hm | hb
  · exact if_pos (State.starting_iff.mpr hm)
  · simp only [if_pos (show s.store.busy = true from hb), ite_self]

/-- ASSIGN RECIPE of a lane and a valid recipe, past steps 1 and 2 of 01 R16. -/
theorem assignRecipeRule_valid {l : Lane} {n : Fin 16} (hl : l.number = byteAt p 0) (hn : n.val = byteAt p 1)
    (hv : (s.settings.recipe n).valid = true) :
    assignRecipeRule p s =
      if s.starting then refuse s .busy
      else if s.store.busy then refuse s .busy
      else if s.assignConflicts l n then refuse s .conflict
      else ((s.setSettings (s.settings.assign l n)).recomputeRestoring .assign, alone .ok) := by
  rw [assignRecipeRule, ← hl, ← hn, laneOfCode_number, indexOfCode_val]
  exact if_neg (by simp [hv])

theorem assignRecipeRule_busy (hl : byteAt p 0 ≤ 3)
    (hn : ∃ n : Fin 16, n.val = byteAt p 1 ∧ (s.settings.recipe n).valid = true)
    (h : s.mode.mode = .starting ∨ s.storing) : assignRecipeRule p s = refuse s .busy := by
  obtain ⟨l, -, hl⟩ := laneOfCode_eq_some hl
  obtain ⟨n, hn, hv⟩ := hn
  rw [assignRecipeRule_valid hl hn hv]
  rcases h with hm | hb
  · exact if_pos (State.starting_iff.mpr hm)
  · rw [if_pos (show s.store.busy = true from hb), ite_self]

end Rules

section Heard

variable {p : List Byte} {s : State}

theorem execReadRecipe_out_of_range (hh : s.hears (.readRecipe p) = true) (hf : fitsKind 0x13#8 p = true)
    (hn : 15 < byteAt p 0) : execReadRecipe p s = .next (s.afterReply 0x13#8 [5#8]) := by
  refine serve_eq_afterReply hh hf ?_
  rw [indexOfCode_eq_none hn]
  rfl

theorem execReadRule_out_of_range (hh : s.hears (.readRule p) = true) (hf : fitsKind 0x16#8 p = true)
    (hn : 7 < byteAt p 0) : execReadRule p s = .next (s.afterReply 0x16#8 [5#8]) := by
  refine serve_eq_afterReply hh hf ?_
  rw [indexOfCode_eq_none hn]
  rfl

theorem execReadRecipe_busy (hh : s.hears (.readRecipe p) = true) (hf : fitsKind 0x13#8 p = true)
    (hn : byteAt p 0 ≤ 15) (hm : s.mode.mode = .starting) :
    execReadRecipe p s = .next (s.afterReply 0x13#8 [3#8]) := by
  refine serve_eq_afterReply hh hf ?_
  rw [indexOfCode_eq_some (Nat.lt_succ_of_le hn)]
  exact if_pos (State.starting_iff.mpr hm)

theorem execReadRule_busy (hh : s.hears (.readRule p) = true) (hf : fitsKind 0x16#8 p = true)
    (hn : byteAt p 0 ≤ 7) (hm : s.mode.mode = .starting) :
    execReadRule p s = .next (s.afterReply 0x16#8 [3#8]) := by
  refine serve_eq_afterReply hh hf ?_
  rw [indexOfCode_eq_some (Nat.lt_succ_of_le hn)]
  exact if_pos (State.starting_iff.mpr hm)

end Heard

/-! ## The BUSY requests -/

section Busy

variable {i : Instr} {kind : Byte} {p : List Byte} {s : State}

/-- In STARTING every request is answered BUSY but eight, once what is judged before the mode is in order
(09 R156). -/
theorem exec_busy_of_starting (hi : requestParts i = some (.unicast, kind, p)) (hh : s.hears i = true)
    (hf : fitsKind kind p = true) (hrecipe : kind = 0x12#8 ∨ kind = 0x13#8 → byteAt p 0 ≤ 15)
    (hrule : kind = 0x15#8 ∨ kind = 0x16#8 → byteAt p 0 ≤ 7)
    (hassign : kind = 0x14#8 → byteAt p 0 ≤ 3 ∧ ∃ n : Fin 16, n.val = byteAt p 1 ∧ (s.settings.recipe n).valid = true)
    (hm : s.mode.mode = .starting)
    (hk : kind ∉ [0x01#8, 0x02#8, 0x03#8, 0x05#8, 0x20#8, 0x21#8, 0x22#8, 0x51#8]) :
    exec i s = .next (s.afterReply kind [3#8]) := by
  cases i <;> cases hi
  case identify | status | clearFlags | fetchNotice | start | stop | resume | readCounts => exact absurd (by decide) hk
  case writeRecipe => exact serve_eq_afterReply hh hf (writeRecipeRule_busy (hrecipe (.inl rfl)) (.inl hm))
  case readRecipe => exact execReadRecipe_busy hh hf (hrecipe (.inr rfl)) hm
  case writeRule => exact serve_eq_afterReply hh hf (writeRuleRule_busy (hrule (.inl rfl)) (.inl hm))
  case readRule => exact execReadRule_busy hh hf (hrule (.inr rfl)) hm
  case assignRecipe =>
    obtain ⟨hl, hn⟩ := hassign rfl
    exact serve_eq_afterReply hh hf (assignRecipeRule_busy hl hn (.inl hm))
  all_goals
    dsimp only [exec, execSetNoticeMask, execConfigureLine, configureLineRule, execReadLine, execAdvertiseGrades,
      execRestoreGrade, execSoftReset, execReportFill, execReportPlace, execReportVision, execLookup, execMarkCard,
      execSetWindow, execMarkWindow, execReadWindow, execNextChunk, execAbort, execSetReturnSize, execLatchCounts,
      execClearCounts, execStoreSettings, execRecallSettings, serveTo]
    exact serve_busy_of_starting hh hf hm

/-- During a store a request that would change a setting, store, recall or reset is answered BUSY in every mode,
once what is judged before the mode is in order (10 R183). -/
theorem exec_busy_of_storing (hi : requestParts i = some (.unicast, kind, p)) (hh : s.hears i = true)
    (hf : fitsKind kind p = true) (hrecipe : kind = 0x12#8 → byteAt p 0 ≤ 15) (hrule : kind = 0x15#8 → byteAt p 0 ≤ 7)
    (hassign : kind = 0x14#8 → byteAt p 0 ≤ 3 ∧ ∃ n : Fin 16, n.val = byteAt p 1 ∧ (s.settings.recipe n).valid = true)
    (hb : s.storing)
    (hk : kind ∈ [0x10#8, 0x12#8, 0x14#8, 0x15#8, 0x04#8, 0x45#8, 0x60#8, 0x61#8, 0x23#8]) :
    exec i s = .next (s.afterReply kind [3#8]) := by
  have hi' := requestOf_of_requestParts hi
  simp only [List.mem_cons, List.not_mem_nil, or_false] at hk
  rcases hk with rfl | rfl | rfl | rfl | rfl | rfl | rfl | rfl | rfl <;> cases hi'
  · exact (serve_busy_of_storing hh hf hb : execConfigureLine p s = _)
  · exact serve_eq_afterReply hh hf (writeRecipeRule_busy (hrecipe rfl) (.inr hb))
  · obtain ⟨hl, hn⟩ := hassign rfl
    exact serve_eq_afterReply hh hf (assignRecipeRule_busy hl hn (.inr hb))
  · exact serve_eq_afterReply hh hf (writeRuleRule_busy (hrule rfl) (.inr hb))
  · exact (serve_busy_of_storing hh hf hb : execSetNoticeMask p s = _)
  · exact (serve_busy_of_storing hh hf hb : execSetReturnSize p s = _)
  · exact (serve_busy_of_storing hh hf hb : execStoreSettings p s = _)
  · exact (serve_busy_of_storing hh hf hb : execRecallSettings p s = _)
  · dsimp only [exec, execSoftReset, serveTo]
    exact serve_busy_of_storing hh hf hb

/-- What is judged before the mode is answered RANGE in every mode and during a store (01 R12, R14, R16; 08 R141,
R142). -/
theorem exec_range_before_mode (hi : requestParts i = some (.unicast, kind, p)) (hh : s.hears i = true)
    (hf : fitsKind kind p = true) :
    (kind = 0x12#8 → 15 < byteAt p 0 → exec i s = .next (s.afterReply kind [5#8, 0#8])) ∧
    (kind = 0x13#8 → 15 < byteAt p 0 → exec i s = .next (s.afterReply kind [5#8])) ∧
    (kind = 0x15#8 → 7 < byteAt p 0 → exec i s = .next (s.afterReply kind [5#8, 0#8])) ∧
    (kind = 0x16#8 → 7 < byteAt p 0 → exec i s = .next (s.afterReply kind [5#8])) ∧
    (kind = 0x14#8 →
      3 < byteAt p 0 ∨ 15 < byteAt p 1 ∨ (∃ n : Fin 16, n.val = byteAt p 1 ∧ (s.settings.recipe n).valid = false) →
      exec i s = .next (s.afterReply kind [5#8])) := by
  have hi' := requestOf_of_requestParts hi
  refine ⟨?_, ?_, ?_, ?_, ?_⟩ <;> rintro rfl h <;> cases hi'
  · exact serve_eq_afterReply hh hf (writeRecipeRule_out_of_range h)
  · exact execReadRecipe_out_of_range hh hf h
  · exact serve_eq_afterReply hh hf (writeRuleRule_out_of_range h)
  · exact execReadRule_out_of_range hh hf h
  · exact serve_eq_afterReply hh hf (assignRecipeRule_out_of_range h)

end Busy

theorem softReset_broadcast_refused {s : State} (hh : s.hears (.softReset .broadcast []) = true)
    (h : s.mode.mode = .starting ∨ s.storing) : exec (.softReset .broadcast []) s = .next s.afterFrame := by
  refine (serveTo_broadcast_eq_afterFrame (st := .busy) hh (by rfl) ?_ : execSoftReset .broadcast [] s = _)
  rcases h with hm | hb
  · exact if_pos (State.starting_iff.mpr hm)
  · rw [if_pos (show s.frameTaken.store.busy = true from hb), ite_self]

theorem latchCounts_broadcast_refused {s : State} (hh : s.hears (.latchCounts .broadcast []) = true)
    (hm : s.mode.mode = .starting) : exec (.latchCounts .broadcast []) s = .next s.afterFrame :=
  (serveTo_broadcast_eq_afterFrame (st := .busy) hh (by rfl) (if_pos (State.starting_iff.mpr hm)) :
    execLatchCounts .broadcast [] s = _)

end Sys2Proof.Machine

namespace Sys2Proof.Proofs

open Sys2Proof.Machine

/-- Settles O10, its three parts as lemmas of their own. -/
theorem busyRequests : Obligations.BusyRequests := by
  refine ⟨fun i kind p s hi hh hf => exec_range_before_mode hi hh hf,
    fun s => ⟨softReset_broadcast_refused, latchCounts_broadcast_refused⟩, ?_⟩
  intro i kind p s hi hh hf hrecipe hrule hassign
  exact ⟨exec_busy_of_starting hi hh hf hrecipe hrule hassign,
    exec_busy_of_storing hi hh hf (fun h => hrecipe (.inl h)) (fun h => hrule (.inl h)) hassign⟩

end Sys2Proof.Proofs
end

section
/-! # What a change of settings does to the grades and the rhythm (06 R113, R114, R118; 07 R122, R123, R125, R130) -/

namespace Sys2Proof.Machine

/-! ## The selector -/

section Selector

variable {g : GradeUnit}

theorem GradeUnit.advise_advise : g.advise.advise = g.advise := by
  cases h : fastestFrom g.common g.floor <;> simp [GradeUnit.advise, h]

/-- A selector at full speed is restored by advising anew. -/
theorem GradeUnit.restored_eq_advise (hf : g.floor = .g1) (hs : g.strike = 0) (hc : g.cleanRun = 0)
    (hr : g.recovery = 0) : g.restored = g.advise := by
  obtain ⟨_, _, _, _, _, _, _, _⟩ := g
  dsimp only at hf hs hc hr
  subst hf hs hc hr
  rfl

theorem State.restore_grade (s : State) (r : RestoreSource) : (s.restore r).grade = s.grade.restored := by
  unfold State.restore
  dsimp only
  split <;> simp [State.handGrade_frame]

/-- A restore of a selector that it would leave as it is changes nothing. -/
theorem State.restore_of_restored {s : State} (h : s.grade.restored = s.grade) (r : RestoreSource) :
    s.restore r = s := by
  unfold State.restore
  dsimp only
  rw [h]
  exact if_pos rfl

/-- A recomputation that may restore: the common set anew, and full speed where it changed (07 R122, R133). -/
theorem State.recomputeRestoring_grade (s : State) (r : RestoreSource) :
    (s.recomputeRestoring r).grade.common = commonSet s.settings s.grade.capability ∧
    ((s.recomputeRestoring r).grade.common = s.grade.common →
      (s.recomputeRestoring r).grade = s.grade ∧ (s.recomputeRestoring r).rhythm = s.rhythm) ∧
    ((s.recomputeRestoring r).grade.common ≠ s.grade.common →
      (s.recomputeRestoring r).grade.floor = .g1 ∧ (s.recomputeRestoring r).grade.strike = 0 ∧
      (s.recomputeRestoring r).grade.cleanRun = 0 ∧ (s.recomputeRestoring r).grade.recovery = 0) ∧
    (s.recomputeRestoring r).grade.capability = s.grade.capability := by
  by_cases h : commonSet s.settings s.grade.capability = s.grade.common
  · have e : s.recomputeRestoring r = s := if_pos h
    rw [e]
    exact ⟨h.symm, fun _ => ⟨rfl, rfl⟩, fun hne => absurd rfl hne, rfl⟩
  · have e : (s.recomputeRestoring r).grade =
        { s.grade with common := commonSet s.settings s.grade.capability }.restored := by
      rw [State.recomputeRestoring, if_neg h, State.restore_grade]
      rfl
    rw [e]
    exact ⟨rfl, fun he => absurd he h, fun _ => ⟨rfl, rfl, rfl, rfl⟩, rfl⟩

end Selector

/-! ## The rhythm -/

section Rhythm

variable {s t : State} {moved : Prop} {period : Nat} {advised : Grade} {mask : BitVec 8}

/-- What a change of period leaves depends on the rhythm, the queue and the clock alone. -/
theorem State.periodTaken.congr {r : RhythmUnit} {q : NoticeUnit} (hr : t.rhythm = s.rhythm)
    (hq : t.notices = s.notices) (hn : t.now = s.now) (h : t.periodTaken moved period advised mask r q) :
    s.periodTaken moved period advised mask r q := by
  unfold State.periodTaken State.stallTimer at h ⊢
  rw [hr, hq, hn] at h
  exact h

theorem State.periodTaken_of_not_moved (h : ¬moved) :
    s.periodTaken moved period advised mask s.rhythm s.notices :=
  ⟨fun _ => ⟨rfl, rfl⟩, fun hm => absurd hm h, fun hm => absurd hm h⟩

theorem State.stallIfDue_of_due (hs : s.rhythm.state ≠ .stopped) (hd : 3 * s.expectedPeriod ≤ s.stallTimer) :
    s.stallIfDue = s.takeStall := if_pos ⟨hs, hd⟩

theorem State.stallIfDue_of_not_due (hd : ¬3 * s.expectedPeriod ≤ s.stallTimer) : s.stallIfDue = s :=
  if_neg fun h => hd h.2

theorem State.periodChange_of_stopped (h : s.rhythm.state = .stopped) : s.periodChange = s := by
  simp [State.periodChange, State.stallIfDue, h]

theorem State.periodChange_of_acquiring (h : s.rhythm.state = .acquiring) :
    s.periodChange = (s.setRhythm { s.rhythm with good := 0 }).stallIfDue := by
  simp only [State.periodChange, h]

/-- From LOCKED and SLIPPING a change of period goes back to ACQUIRING (06 R114). -/
theorem State.periodChange_of_locked_or_slipping (h : s.rhythm.state = .locked ∨ s.rhythm.state = .slipping) :
    s.periodChange =
      ((s.setRhythm { s.rhythm with state := .acquiring, good := 0, slip := 0, deadline := none }).rhythmEvent
        s.rhythm.state .grade .none 0).stallIfDue := by
  rcases h with h | h <;> simp only [State.periodChange, h]

/-- A change of period taken by the Rhythm Monitor. -/
theorem State.periodChange_taken (s : State) (moved : Prop) (h : moved) :
    s.periodTaken moved s.expectedPeriod s.grade.advised s.settings.noticeMask s.periodChange.rhythm
      s.periodChange.notices := by
  refine ⟨fun hs => ?_, fun _ hs => ⟨fun hd => ?_, fun hd => ?_⟩, fun _ hs => ⟨fun hd => ?_, fun hd => ?_⟩⟩
  · rw [State.periodChange_of_stopped (hs.resolve_left (not_not_intro h))]
    exact ⟨rfl, rfl⟩
  · rw [State.periodChange_of_acquiring hs, State.stallIfDue_of_not_due]
    · exact ⟨rfl, rfl⟩
    · exact hd
  · rw [State.periodChange_of_acquiring hs, State.stallIfDue_of_due]
    · rw [← hs]
      exact ⟨rfl, rfl⟩
    · simp [hs]
    · exact hd
  · rw [State.periodChange_of_locked_or_slipping hs, State.stallIfDue_of_not_due]
    · exact ⟨rfl, rfl⟩
    · exact hd
  · rw [State.periodChange_of_locked_or_slipping hs, State.stallIfDue_of_due]
    · exact ⟨rfl, rfl⟩
    · simp
    · exact hd

/-- A change of advised grade handed to the Rhythm Monitor (07 R125). -/
theorem State.handGrade_taken (s : State) (before : Grade) :
    s.periodTaken (s.grade.advised ≠ before) s.expectedPeriod s.grade.advised s.settings.noticeMask
      (s.handGrade before).rhythm (s.handGrade before).notices := by
  unfold State.handGrade
  split
  · next h => exact State.periodTaken_of_not_moved (not_not_intro h)
  · next h => exact s.periodChange_taken _ h

end Rhythm

/-! ## The restore-idle signal -/

section RestoreIdle

variable {s : State}

/-- Whether the restore-idle timer stands at or past its limit with its signal not given (06 R118). -/
def State.restoreIdleDue (s : State) : Prop :=
  s.rhythm.state = .stopped ∧ s.rhythm.signalGiven = false ∧
    ∃ t, s.rhythm.restoreStart = some t ∧ t + 1000 * s.settings.line.restoreIdle ≤ s.now

theorem State.restoreIdleIfDue_of_due (h : s.restoreIdleDue) : s.restoreIdleIfDue = s.giveRestoreIdle := by
  obtain ⟨hs, hg, t, ht, hd⟩ := h
  simp only [State.restoreIdleIfDue, ht]
  exact if_pos ⟨hs, hg, hd⟩

theorem State.restoreIdleIfDue_of_not_due (h : ¬s.restoreIdleDue) : s.restoreIdleIfDue = s := by
  unfold State.restoreIdleIfDue
  split
  · next t ht => exact if_neg fun ⟨hs, hg, hd⟩ => h ⟨hs, hg, t, ht, hd⟩
  · rfl

/-- A signal that may be due leaves the selector as it is, or restores it. -/
theorem State.restoreIdleIfDue_grade (s : State) :
    s.restoreIdleIfDue.grade = s.grade ∨ s.restoreIdleIfDue.grade = s.grade.restored := by
  by_cases h : s.restoreIdleDue
  · rw [State.restoreIdleIfDue_of_due h, State.giveRestoreIdle, State.restore_grade]
    exact .inr rfl
  · rw [State.restoreIdleIfDue_of_not_due h]
    exact .inl rfl

/-- A signal given to a selector at full speed is noted, and that is all. -/
theorem State.giveRestoreIdle_of_restored (h : s.grade.restored = s.grade) :
    s.giveRestoreIdle = s.setRhythm { s.rhythm with signalGiven := true } := by
  unfold State.giveRestoreIdle
  exact State.restore_of_restored (by simpa using h) _

end RestoreIdle

end Sys2Proof.Machine
end

section
/-! # ASSIGN RECIPE, WRITE RECIPE and CONFIGURE LINE judged (01 R3 to R17) -/

namespace Sys2Proof.Machine

/-- The Link Port as the reply leaves it, where the rule left it alone. -/
theorem State.answer_link {s t : State} (h : t.link = s.frameTaken.link) (kind : Byte) (reply : List Byte) :
    (t.answer kind reply).link = (s.afterReply kind reply).link :=
  congrArg (fun k : LinkUnit => { k with reply := .awaiting ⟨kind + 0x80#8, reply⟩ }) h

theorem Status.code_ok_or_clamped (c : Prop) [Decidable c] :
    (if c then Status.ok else Status.clamped).code = if c then 0 else 1 := by split <;> rfl

/-! ## ASSIGN RECIPE (01 R16, R17; 07 R133) -/

theorem State.assignConflicts_iff (s : State) (l : Lane) (n : Fin 16) :
    s.assignConflicts l n = true ↔
      (s.mode.mode = .run ∨ s.mode.mode = .halted) ∧ s.settings.enabled l = true ∧ s.settings.assigned.lane l ≠ n ∧
        commonSet (s.settings.assign l n) s.grade.capability = 0#4 := by
  simp only [State.assignConflicts, Bool.and_eq_true, decide_eq_true_eq, State.tracking_iff, and_assoc]

section Assign

variable {a b : Byte} {s : State} {l : Lane} {n : Fin 16}

/-- ASSIGN RECIPE outside STARTING with no store: CONFLICT, or the assignment replaced. -/
theorem assignRecipeRule_judged (hl : l.number = a.toNat) (hn : n.val = b.toNat) (hm : s.mode.mode ≠ .starting)
    (hb : ¬s.storing) (hv : (s.settings.recipe n).valid = true) :
    assignRecipeRule [a, b] s =
      if s.assignConflicts l n then refuse s .conflict
      else ((s.setSettings (s.settings.assign l n)).recomputeRestoring .assign, alone .ok) := by
  rw [assignRecipeRule_valid (show l.number = byteAt [a, b] 0 from hl) (show n.val = byteAt [a, b] 1 from hn) hv,
    State.starting_eq_false hm, State.store_busy_eq_false hb]
  rfl

end Assign

end Sys2Proof.Machine

namespace Sys2Proof.Proofs

open Sys2Proof.Machine

/-- Settles O20: past the checks, the recomputation that restores where the common set changed. -/
theorem assignRecipeJudged : Obligations.AssignRecipeJudged := by
  intro a b s hh hm hb
  have refused {reply : List Byte} (hr : assignRecipeRule [a, b] s.frameTaken = (s.frameTaken, reply)) :
      exec (.assignRecipe [a, b]) s = .next (s.afterReply 0x14#8 reply) := serve_eq_afterReply hh rfl hr
  refine ⟨fun hab => refused (assignRecipeRule_out_of_range (hab.imp_right .inl)), fun l n hl hn => ?_⟩
  intro st clash
  have hclash : s.assignConflicts l n = true ↔ clash := s.assignConflicts_iff l n
  have judged := assignRecipeRule_judged (s := s.frameTaken) hl hn hm hb
  refine ⟨fun hv => refused (assignRecipeRule_out_of_range (.inr (.inr ⟨n, hn, hv⟩))),
    fun hv hc => refused ((judged hv).trans (if_pos (hclash.mpr hc))), fun hv hc => ?_⟩
  have accepted := (judged hv).trans (if_neg (mt hclash.mp hc))
  let u := s.frameTaken.setSettings st
  obtain ⟨hcommon, hsame, hchanged, hcap⟩ := u.recomputeRestoring_grade .assign
  obtain ⟨-, -, -, -, hset, -, hmode, htrack, hzones, hpress, hdischarge, hlink, -⟩ :=
    u.recomputeRestoring_frame .assign
  exact ⟨_, serve_eq_answer hh rfl accepted, hset, hcommon, hsame, hchanged, hcap, htrack, hpress, hdischarge, hmode,
    hzones, State.answer_link hlink _ _⟩

end Sys2Proof.Proofs
end

section
namespace Sys2Proof.Machine

/-! ## WRITE RECIPE (01 R12, R13) -/

theorem Settings.recipe_setRecipe_self (st : Settings) (n : Fin 16) (r : Recipe) : (st.setRecipe n r).recipe n = r :=
  Vector.getElem_set_self _

theorem Settings.recipe_setRecipe_other (st : Settings) {n m : Fin 16} (h : m ≠ n) (r : Recipe) :
    (st.setRecipe n r).recipe m = st.recipe m :=
  Vector.getElem_set_ne n.isLt m.isLt fun e => h (Fin.ext e.symm)

theorem clamp_zero_eq_min (hi n : Nat) : clamp 0 hi n = min n hi := by
  unfold clamp
  (repeat' split) <;> omega

theorem clamp_bne (lo hi n : Nat) : (clamp lo hi n != n) = decide (n < lo ∨ hi < n) := by
  rw [Bool.eq_iff_iff, bne_iff_ne, decide_eq_true_iff]
  unfold clamp
  (repeat' split) <;> omega

/-- The recipe a WRITE RECIPE carries, with the ranges that start at 0 as minima (01 R12 step 5). -/
theorem recipeOf_eq (f : List Byte) :
    recipeOf f =
      ⟨decide (0 < byteAt f 0), clamp 320 1000 (wordAt f 1), clamp 64 1023 (wordAt f 3), wordAt f 5, wordAt f 7,
        wordAt f 9, clamp 1 250 (wordAt f 11), clamp 1 250 (wordAt f 13), min (byteAt f 15) 15,
        min (byteAt f 16) 127, BitVec.ofNat 4 (byteAt f 17)⟩ := by
  rw [recipeOf, clamp_zero_eq_min, clamp_zero_eq_min]

/-- Whether clamping changes field `k` of a WRITE RECIPE (01 R12 step 5). -/
def recipeFieldClamped (f : List Byte) (k : Nat) : Bool :=
  match k with
  | 0 => decide (1 < byteAt f 0)
  | 1 => decide (wordAt f 1 < 320 ∨ 1000 < wordAt f 1)
  | 2 => decide (wordAt f 3 < 64 ∨ 1023 < wordAt f 3)
  | 6 => decide (wordAt f 11 < 1 ∨ 250 < wordAt f 11)
  | 7 => decide (wordAt f 13 < 1 ∨ 250 < wordAt f 13)
  | 8 => decide (15 < byteAt f 15)
  | 9 => decide (127 < byteAt f 16)
  | _ => false

theorem getLsbD_bit {n : Nat} (hn : n < 16) (b : Bool) (k : Nat) :
    (if b then 1#16 <<< n else 0#16).getLsbD k = (b && decide (k = n)) := by
  cases b
  · simp
  · rw [if_pos rfl, BitVec.getLsbD_shiftLeft, BitVec.getLsbD_one, Bool.true_and, Bool.eq_iff_iff]
    simp only [Bool.and_eq_true, Bool.not_eq_true', decide_eq_true_eq, decide_eq_false_iff_not]
    omega

theorem recipeClamps_getLsbD (f : List Byte) (k : Nat) : (recipeClamps f).getLsbD k = recipeFieldClamped f k := by
  simp only [recipeClamps, BitVec.getLsbD_or, getLsbD_bit (show 0 < 16 by decide), getLsbD_bit (show 1 < 16 by decide),
    getLsbD_bit (show 2 < 16 by decide), getLsbD_bit (show 6 < 16 by decide), getLsbD_bit (show 7 < 16 by decide),
    getLsbD_bit (show 8 < 16 by decide), getLsbD_bit (show 9 < 16 by decide), clamp_bne]
  match k with
  | 0 | 1 | 2 | 3 | 4 | 5 | 6 | 7 | 8 | 9 | _ + 10 => simp [recipeFieldClamped]

section WriteRecipe

variable {s : State} {n : Fin 16} {p : List Byte}

/-- WRITE RECIPE outside STARTING with no store, in the order of 01 R12. -/
theorem writeRecipeRule_judged (hn : byteAt p 0 = n.val) (hm : s.mode.mode ≠ .starting) (hb : ¬s.storing) :
    writeRecipeRule p s =
      if s.tracking && s.recipeInUse n then refuse s .mode
      else if byteAt (p.drop 1) 17 = 0 ∨ 15 < byteAt (p.drop 1) 17 then refuseField s 10
      else if wordAt (p.drop 1) 7 < wordAt (p.drop 1) 5 ∨ wordAt (p.drop 1) 9 < wordAt (p.drop 1) 7 then
        refuseField s 3
      else if clamp 1 250 (wordAt (p.drop 1) 13) < clamp 1 250 (wordAt (p.drop 1) 11) then refuseField s 6
      else
        (s.writeRecipe n (recipeOf (p.drop 1)),
          byte (if recipeClamps (p.drop 1) = 0#16 then Status.ok else Status.clamped).code ::
            be16 (recipeClamps (p.drop 1)).toNat) := by
  rw [writeRecipeRule, hn, indexOfCode_val, State.starting_eq_false hm, State.store_busy_eq_false hb]
  rfl

/-- A recipe that an enabled lane has: the common set and the advised grade anew with no restore, and a change of
that grade taken by the Rhythm Monitor (01 R13; 07 R122, R125). -/
theorem State.writeRecipe_of_assigned (h : s.settings.assignedToEnabled n = true) (r : Recipe) :
    let t := s.writeRecipe n r
    let common := commonSet t.settings s.grade.capability
    let advised := (fastestFrom common s.grade.floor).getD s.grade.advised
    t.grade = { s.grade with common := common, advised := advised, lines := gradeLines advised } ∧
    s.periodTaken (advised ≠ s.grade.advised) (periodOf s.settings.line advised) advised s.settings.noticeMask
      t.rhythm t.notices := by
  have e : s.writeRecipe n r =
      (s.setSettings (s.settings.setRecipe n r)).recomputeCommon.handGrade s.grade.advised := if_pos h
  dsimp only
  rw [(s.writeRecipe_frame n r).1, e]
  have hgrade := (s.setSettings (s.settings.setRecipe n r)).recomputeCommon.handGrade_frame s.grade.advised
  refine ⟨?_, ?_⟩
  · simp only [hgrade]
    rfl
  · exact State.periodTaken.congr rfl rfl rfl
      ((s.setSettings (s.settings.setRecipe n r)).recomputeCommon.handGrade_taken s.grade.advised)

/-- A recipe that no enabled lane has leaves the grades and the rhythm as they are. -/
theorem State.writeRecipe_of_not_assigned (h : s.settings.assignedToEnabled n = false) (r : Recipe) :
    s.writeRecipe n r = s.setSettings (s.settings.setRecipe n r) := if_neg (Bool.eq_false_iff.mp h)

end WriteRecipe

end Sys2Proof.Machine

namespace Sys2Proof.Proofs

open Sys2Proof.Machine

/-- Settles O16: the rule's checks taken in their order, each refusal by the one branch that gives it. -/
theorem writeRecipeJudged : Obligations.WriteRecipeJudged := by
  refine ⟨fun p s hh hf hn => serve_eq_afterReply hh hf (writeRecipeRule_out_of_range hn), ?_⟩
  intro p n s hh hf hn hm hb f dwellMin dwellMax clash badSet badDose clamped
  have refused {reply : List Byte} (hr : writeRecipeRule p s.frameTaken = (s.frameTaken, reply)) :
      exec (.writeRecipe p) s = .next (s.afterReply 0x12#8 reply) := serve_eq_afterReply hh hf hr
  have judged := writeRecipeRule_judged (s := s.frameTaken) hn hm hb
  have hclash : (s.frameTaken.tracking && s.frameTaken.recipeInUse n) = true ↔ clash := by
    rw [Bool.and_eq_true]
    exact and_congr State.tracking_iff Iff.rfl
  refine ⟨fun hc => refused (judged.trans (if_pos (hclash.mpr hc))), fun hc hs => refused ?_,
    fun hc hs hd => refused ?_, fun hc hs hd hw => refused ?_, fun hc hs hd hw => ?_⟩
  all_goals rw [if_neg (mt hclash.mp hc)] at judged
  · exact judged.trans (if_pos hs)
  all_goals rw [if_neg (show ¬(_ ∨ _) from hs)] at judged
  · exact judged.trans (if_pos hd)
  all_goals rw [if_neg (show ¬(_ ∨ _) from hd)] at judged
  · exact judged.trans (if_pos hw)
  rw [if_neg (Nat.not_lt.mpr hw)] at judged
  obtain ⟨hset, hstore, hmode, htrack, hzones, hpress, hdischarge, hlink⟩ :=
    s.frameTaken.writeRecipe_frame n (recipeOf f)
  refine ⟨_, serve_eq_answer hh hf judged, ?_, fun m hne => ?_, ?_,
    State.writeRecipe_of_assigned (s := s.frameTaken) (r := recipeOf f), fun ha => ?_,
    htrack, hpress, hzones, hdischarge, hmode, hstore, recipeClamps f, fun k => ?_, ?_⟩
  · exact (congrArg (fun st : Settings => st.recipe n) hset).trans
      ((Settings.recipe_setRecipe_self _ n _).trans (recipeOf_eq f))
  · exact (congrArg (fun st : Settings => st.recipe m) hset).trans (Settings.recipe_setRecipe_other _ hne _)
  · exact congrArg (fun st : Settings => { st with recipes := s.settings.recipes }) hset
  · rw [State.writeRecipe_of_not_assigned (s := s.frameTaken) ha]
    exact ⟨rfl, rfl, rfl⟩
  · rw [recipeClamps_getLsbD]
    match k with
    | 0 | 1 | 2 | 3 | 4 | 5 | 6 | 7 | 8 | 9 | _ + 10 => rfl
  · rw [State.answer_link hlink, Status.code_ok_or_clamped]
    rfl

end Sys2Proof.Proofs
end

section
namespace Sys2Proof.Machine

/-! ## New settings handed on (01 R7, R8; 06 R114, R118; 07 R122 to R125) -/

/-- New settings with the track rebuilt and the common set anew. -/
def State.newSettings (s : State) (st : Settings) : State := (s.setSettings st).rebuildTrack.recomputeCommon

/-- New settings handed on, up to the restore-idle test. -/
def State.handSettings (s : State) (st : Settings) : State :=
  if (s.newSettings st).grade.advised = s.grade.advised ∧ (s.newSettings st).expectedPeriod = s.expectedPeriod then
    s.newSettings st
  else (s.newSettings st).periodChange

section Install

variable (s : State) (st : Settings)

theorem State.installSettings_eq : s.installSettings st = (s.handSettings st).restoreIdleIfDue := rfl

theorem State.handSettings_frame :
    (s.handSettings st).grade = (s.newSettings st).grade ∧ (s.handSettings st).settings = st ∧
    (s.handSettings st).now = s.now := by
  unfold State.handSettings
  split
  · exact ⟨rfl, rfl, rfl⟩
  · simp only [State.periodChange_frame]
    exact ⟨trivial, rfl, rfl⟩

/-- A change of the advised grade or of its period is taken by the Rhythm Monitor. -/
theorem State.handSettings_taken :
    s.periodTaken ((s.newSettings st).grade.advised ≠ s.grade.advised ∨
        (s.newSettings st).expectedPeriod ≠ s.expectedPeriod)
      (s.newSettings st).expectedPeriod (s.newSettings st).grade.advised st.noticeMask
      (s.handSettings st).rhythm (s.handSettings st).notices := by
  rw [← Classical.not_and_iff_not_or_not]
  unfold State.handSettings
  split
  · next h => exact State.periodTaken_of_not_moved (not_not_intro h)
  · next h => exact State.periodTaken.congr rfl rfl rfl ((s.newSettings st).periodChange_taken _ h)

variable {s}

/-- Whatever the grades were, the common set is computed anew, and the floor stays or is restored. -/
theorem State.installSettings_grade :
    (s.installSettings st).grade.common = commonSet st s.grade.capability ∧
    (s.installSettings st).grade.capability = s.grade.capability ∧
    (s.grade.floor = .g1 → (s.installSettings st).grade.floor = .g1) := by
  rw [State.installSettings_eq]
  rcases (s.handSettings st).restoreIdleIfDue_grade with e | e <;> rw [e, (s.handSettings_frame st).1]
  · exact ⟨rfl, rfl, id⟩
  · exact ⟨rfl, rfl, fun _ => rfl⟩

/-- Over grades at full speed, new settings advise by 07 R123 with no GRADE event. -/
theorem State.installSettings_taken (hfloor : s.grade.floor = .g1) (hstrike : s.grade.strike = 0)
    (hclean : s.grade.cleanRun = 0) (hrecovery : s.grade.recovery = 0) : s.settingsTaken (s.installSettings st) st := by
  obtain ⟨hgrade, hset, hnow⟩ := s.handSettings_frame st
  have hrestored : (s.handSettings st).grade.restored = (s.handSettings st).grade := by
    rw [hgrade, GradeUnit.restored_eq_advise (g := (s.newSettings st).grade) hfloor hstrike hclean hrecovery]
    exact GradeUnit.advise_advise
  have htaken := s.handSettings_taken st
  have hdue : (s.handSettings st).restoreIdleDue ↔
      (s.handSettings st).rhythm.state = .stopped ∧ (s.handSettings st).rhythm.signalGiven = false ∧
        ∃ t0, (s.handSettings st).rhythm.restoreStart = some t0 ∧ t0 + 1000 * st.line.restoreIdle ≤ s.now := by
    rw [State.restoreIdleDue, hset, hnow]
  by_cases h : (s.handSettings st).restoreIdleDue
  · have e : s.installSettings st =
        (s.handSettings st).setRhythm { (s.handSettings st).rhythm with signalGiven := true } :=
      (State.restoreIdleIfDue_of_due h).trans (State.giveRestoreIdle_of_restored hrestored)
    rw [e]
    exact ⟨hgrade, _, htaken, fun _ => rfl, fun hn => absurd (hdue.mp h) hn⟩
  · have e : s.installSettings st = s.handSettings st := State.restoreIdleIfDue_of_not_due h
    rw [e]
    exact ⟨hgrade, _, htaken, fun hd => absurd (hdue.mpr hd) h, fun _ => rfl⟩

end Install

/-! ## CONFIGURE LINE (01 R3 to R7) -/

/-- CONFIGURE LINE outside STARTING with no store, `k` being its candidate. -/
theorem configureLineRule_judged {p : List Byte} {s : State} {k : Candidate} (hm : s.mode.mode ≠ .starting)
    (hb : ¬s.storing) (hk : buildCandidate (beNat (p.take 4)) (p.drop 4) s.settings.line = k) :
    configureLineRule p s =
      if s.tracking then refuse s .mode
      else if 2 ^ 28 ≤ beNat (p.take 4) then refuse s .range
      else if lineCheck k.line ≠ 0 then
        (s, [byte Status.config.code, byte (lineCheck k.line)] ++ be32 k.clamped.toNat)
      else
        (s.installSettings { s.settings with line := k.line },
          [byte (if k.clamped = 0#32 then Status.ok else Status.clamped).code, 0#8] ++ be32 k.clamped.toNat) := by
  subst hk
  rw [configureLineRule, State.starting_eq_false hm, State.store_busy_eq_false hb]
  rfl

end Sys2Proof.Machine

namespace Sys2Proof.Proofs

open Sys2Proof.Machine

/-- Settles O15: over grades as IDLE has them the selector stands at full speed, so that nothing is restored. -/
theorem configureLineJudged : Obligations.ConfigureLineJudged := by
  intro p s hh hf hb
  generalize hk : buildCandidate (beNat (p.take 4)) (p.drop 4) s.settings.line = k
  have refused {reply : List Byte} (hr : configureLineRule p s.frameTaken = (s.frameTaken, reply)) :
      exec (.configureLine p) s = .next (s.afterReply 0x10#8 reply) := serve_eq_afterReply hh hf hr
  refine ⟨fun hm => refused ?_, fun hm => ?_⟩
  · have hne : s.mode.mode ≠ .starting := by rcases hm with h | h <;> simp [h]
    exact (configureLineRule_judged (s := s.frameTaken) hne hb hk).trans (if_pos (State.tracking_iff.mpr hm))
  have judged := configureLineRule_judged (s := s.frameTaken) (by simp [hm]) hb hk
  rw [State.frameTaken_tracking, State.tracking_eq_false hm, if_neg Bool.false_ne_true] at judged
  refine ⟨fun hr => refused (judged.trans (if_pos hr)), fun hr => ?_⟩
  rw [if_neg (Nat.not_le.mpr hr)] at judged
  refine ⟨fun hc => refused (judged.trans (if_pos hc)), fun hc => ?_⟩
  replace judged := judged.trans (if_neg (not_not_intro hc))
  obtain ⟨hnow, hphase, hpins, hset, hstore, hmode, htrack, hzones, hpress, hdischarge, hlink⟩ :=
    s.frameTaken.installSettings_frame { s.settings with line := k.line }
  obtain ⟨hcommon, hcapability, hfloor⟩ :=
    State.installSettings_grade (s := s.frameTaken) { s.settings with line := k.line }
  have htaken (hg : s.gradeLegal) :
      s.settingsTaken (s.frameTaken.installSettings { s.settings with line := k.line })
        (s.frameTaken.installSettings { s.settings with line := k.line }).settings := by
    obtain ⟨-, -, -, -, -, -, -, hfull⟩ := hg (State.phase_of_hears hh)
    obtain ⟨hfloor, hstrike, hclean, hrecovery⟩ := hfull (.inl hm)
    rw [hset]
    exact State.installSettings_taken (s := s.frameTaken) _ hfloor hstrike hclean hrecovery
  rw [State.frameTaken_settings] at judged
  generalize s.frameTaken.installSettings { s.settings with line := k.line } = t at *
  refine ⟨_, serve_eq_answer hh hf judged, hset, htrack, ?_, hcapability, hfloor, htaken, ?_, hzones, hpress,
    hdischarge, hstore, hmode, hpins, hphase, hnow⟩
  · exact hcommon.trans (congrArg (fun st => commonSet st s.grade.capability) hset.symm)
  · rw [State.answer_link hlink, Status.code_ok_or_clamped]
    rfl

end Sys2Proof.Proofs
end

section
/-! # The station reports judged (03 R49 to R57) -/

namespace Sys2Proof.Machine

/-! ## What a report is judged by, and its rule -/

/-- What the acceptance decision reads of a report, and what it writes: its serial, the presence of its part, its
span, the record with the part written, the mark called for, and whether a value was clamped (03 R49). -/
structure StationReport where
  serial : Serial
  present : CardRecord → Bool
  station : Nat
  deadline : Nat
  write : CardRecord → CardRecord
  mark : CardRecord → Option MarkKind
  clamped : Bool

/-- The record that an accepted report leaves, and its mark result (03 R57). -/
def StationReport.outcome (r : StationReport) (c : CardRecord) : CardRecord × MarkResult :=
  match r.mark c with
  | some k => (r.write c).addMark k
  | none => (r.write c, .none)

/-- The rule that the three reports share: BUSY, the four refusals in order, or the record written (03 R48, R49). -/
def StationReport.rule (r : StationReport) (s : State) : Served :=
  if s.starting then refuse s .busy
  else
    match judgeReport s r.serial r.present r.station r.deadline with
    | .error reply => (s, reply)
    | .ok f => acceptReport s f (r.write f.card) (r.mark f.card) r.clamped

namespace StationReport

variable {r : StationReport} {s : State} {f : Found}

theorem rule_of_error {reply : List Byte} (hm : s.starting = false)
    (h : judgeReport s r.serial r.present r.station r.deadline = .error reply) : r.rule s = (s, reply) := by
  rw [rule, hm, h]
  rfl

theorem rule_unknown (hm : s.starting = false) (hf : s.findCard r.serial = none) :
    r.rule s = (s, alone .unknown) := by
  refine rule_of_error hm ?_
  rw [judgeReport, hf]

theorem rule_repeated (hm : s.starting = false) (hf : s.findCard r.serial = some f) (hp : r.present f.card = true) :
    r.rule s = (s, alone .repeated ++ f.bytes) := by
  refine rule_of_error hm ?_
  rw [judgeReport, hf]
  exact if_pos hp

theorem rule_early (hm : s.starting = false) (hf : s.findCard r.serial = some f) (hp : r.present f.card = false)
    (he : f.position < r.station) : r.rule s = (s, alone .early ++ f.bytes) := by
  refine rule_of_error hm ?_
  simp only [judgeReport, hf, hp, if_pos he, Bool.false_eq_true, if_false]

theorem rule_late (hm : s.starting = false) (hf : s.findCard r.serial = some f) (hp : r.present f.card = false)
    (he : r.station ≤ f.position) (hl : r.deadline ≤ f.position) : r.rule s = (s, alone .late ++ f.bytes) := by
  refine rule_of_error hm ?_
  simp only [judgeReport, hf, hp, if_neg (Nat.not_lt.mpr he), if_pos hl, Bool.false_eq_true, if_false]

/-- A report within its span for a record without its part (03 R49 step 5, R57). -/
theorem rule_accepted (hm : s.starting = false) (hf : s.findCard r.serial = some f) (hp : r.present f.card = false)
    (he : r.station ≤ f.position) (hl : f.position < r.deadline) :
    r.rule s = (s.putCard f (r.outcome f.card).1,
      byte (if r.clamped then 1 else 0) :: (f.bytes ++ [byte (r.outcome f.card).2.code])) := by
  have accepted : judgeReport s r.serial r.present r.station r.deadline = .ok f := by
    simp only [judgeReport, hf, hp, if_neg (Nat.not_lt.mpr he), if_neg (Nat.not_le.mpr hl), Bool.false_eq_true,
      if_false]
  rw [rule, hm, accepted]
  cases r.clamped <;> rfl

end StationReport

/-- A report whose rule is that of its contents, heard outside STARTING: the five outcomes (03 R49 to R53, R57). -/
theorem exec_report_judged {i : Instr} {kind : Byte} {p : List Byte} {s : State} (report : Settings → StationReport)
    (hh : s.hears i = true) (hf : fitsKind kind p = true)
    (hexec : exec i s = serve i kind p s fun u => (report u.settings).rule u) (hm : s.mode.mode ≠ .starting) :
    let r := report s.settings
    (s.findCard r.serial = none → exec i s = .next (s.afterReply kind [7#8])) ∧
    (∀ f, s.findCard r.serial = some f →
      (r.present f.card = true → exec i s = .next (s.afterReply kind (10#8 :: f.bytes))) ∧
      (r.present f.card = false → f.position < r.station →
        exec i s = .next (s.afterReply kind (8#8 :: f.bytes))) ∧
      (r.present f.card = false → r.station ≤ f.position → r.deadline ≤ f.position →
        exec i s = .next (s.afterReply kind (9#8 :: f.bytes))) ∧
      (r.present f.card = false → r.station ≤ f.position → f.position < r.deadline →
        exec i s = .next ((s.putCard f (r.outcome f.card).1).afterReply kind
          (byte (if r.clamped then 1 else 0) :: (f.bytes ++ [byte (r.outcome f.card).2.code]))))) := by
  intro r
  have hm' : s.frameTaken.starting = false := State.starting_eq_false hm
  have refused {reply : List Byte} (hr : r.rule s.frameTaken = (s.frameTaken, reply)) :
      exec i s = .next (s.afterReply kind reply) := hexec.trans (serve_eq_afterReply hh hf hr)
  refine ⟨fun hn => refused (r.rule_unknown hm' hn), fun f hs => ⟨?_, ?_, ?_, ?_⟩⟩
  · exact fun hp => refused (r.rule_repeated hm' hs hp)
  · exact fun hp he => refused (r.rule_early hm' hs hp he)
  · exact fun hp he hl => refused (r.rule_late hm' hs hp he hl)
  · exact fun hp he hl => hexec.trans (serve_eq_answer hh hf (r.rule_accepted hm' hs hp he hl))

/-! ## What a placement report shows (03 R55) -/

theorem clampOffset_eq_max_min (x : Int) : clampOffset x = max (-127) (min 127 x) := by
  unfold clampOffset
  split <;> omega

/-- The mark of a placement by its code: a code of 0 is CARD_MISSING whatever the offset. -/
theorem placeMark_eq (code : Nat) (offset : Int) (tol : Nat) :
    placeMark ⟨decide (0 < code), offset⟩ tol =
      if code = 0 then some .cardMissing else if tol < offset.natAbs then some .regOffset else none := by
  simp only [placeMark, decide_eq_false_iff_not, Nat.not_lt, Nat.le_zero]

/-! ## The three reports (03 R54 to R56) -/

section Reports

variable (hi lo x y z : Byte) (st : Settings)

/-- The serial of a report's payload, high byte first (11 R188). -/
def reportSerial : Serial := BitVec.ofNat 16 (hi.toNat * 256 + lo.toNat)

/-- REPORT FILL of the count `x` (03 R54). -/
def fillReport : StationReport where
  serial := reportSerial hi lo
  present c := c.fill.isSome
  station := 0
  deadline := st.line.dFill
  write c := { c with fill := some (min x.toNat 15) }
  mark c := fillMark (min x.toNat 15) (st.recipe c.recipe).items
  clamped := decide (15 < x.toNat)

/-- The offset that a placement report carries in its last two bytes. -/
def carriedOffset : Int := (BitVec.ofNat 16 (y.toNat * 256 + z.toNat)).toInt

/-- The offset as it is written, within −127 to +127 (03 R55). -/
def shownOffset : Int := max (-127) (min 127 (carriedOffset y z))

/-- REPORT PLACE of the code `x` and the offset of `y` and `z` (03 R55). -/
def placeReport : StationReport where
  serial := reportSerial hi lo
  present c := c.place.isSome
  station := st.line.pPlace
  deadline := st.line.dPlace
  write c := { c with place := some ⟨decide (0 < x.toNat), shownOffset y z⟩ }
  mark c :=
    if x.toNat = 0 then some .cardMissing
    else if (st.recipe c.recipe).regTol < (shownOffset y z).natAbs then some .regOffset else none
  clamped := decide (1 < x.toNat ∨ shownOffset y z ≠ carriedOffset y z)

/-- REPORT VISION of the result `x` and the defect `y` (03 R56). -/
def visionReport : StationReport where
  serial := reportSerial hi lo
  present c := c.vision.isSome
  station := st.line.pVision
  deadline := st.line.dVision
  write c := { c with vision := some ⟨decide (0 < x.toNat), y⟩ }
  mark _ := if 0 < x.toNat then some .visionFail else none
  clamped := decide (1 < x.toNat)

variable (s : State)

theorem exec_reportFill : exec (.reportFill [hi, lo, x]) s =
    serve (.reportFill [hi, lo, x]) 0x30#8 [hi, lo, x] s fun u => (fillReport hi lo x u.settings).rule u := by
  show execReportFill _ s = _
  simp only [execReportFill, clamp_zero_eq_min]
  rfl

theorem exec_reportPlace : exec (.reportPlace [hi, lo, x, y, z]) s =
    serve (.reportPlace [hi, lo, x, y, z]) 0x31#8 [hi, lo, x, y, z] s fun u =>
      (placeReport hi lo x y z u.settings).rule u := by
  show execReportPlace _ s = _
  simp only [execReportPlace, clampOffset_eq_max_min, placeMark_eq, ← Bool.decide_or]
  rfl

theorem exec_reportVision : exec (.reportVision [hi, lo, x, y]) s =
    serve (.reportVision [hi, lo, x, y]) 0x32#8 [hi, lo, x, y] s fun u =>
      (visionReport hi lo x y u.settings).rule u := by
  have defect : byte (byteAt [hi, lo, x, y] 3) = y := byte_toNat y
  show execReportVision _ s = _
  simp only [execReportVision, defect, decide_eq_true_eq]
  rfl

end Reports

end Sys2Proof.Machine

namespace Sys2Proof.Proofs

open Sys2Proof.Machine

/-- Settles O30: the three reports share one rule, and the statement's cases are that rule's. -/
theorem reportsJudged : Obligations.ReportsJudged := by
  intro hi lo x y z s
  exact ⟨fun hh hm => exec_report_judged (fillReport hi lo x) hh rfl (exec_reportFill hi lo x s) hm,
    fun hh hm => exec_report_judged (placeReport hi lo x y z) hh rfl (exec_reportPlace hi lo x y z s) hm,
    fun hh hm => exec_report_judged (visionReport hi lo x y) hh rfl (exec_reportVision hi lo x y s) hm⟩

end Sys2Proof.Proofs
end

section
/-! # The rhythm stays legal (06 R110 to R113, R116, R118)

A legal rhythm is one of four shapes, one for each state. The Rhythm Monitor's own operations take a legal rhythm to a
legal one; the operations of the other blocks leave the rhythm alone or move it by a change of period. -/

namespace Sys2Proof.Machine

/-! ## A legal rhythm, state by state -/

/-- What `State.rhythmLegal` asks of the rhythm, which is all that it reads of the state. -/
def RhythmUnit.legal (r : RhythmUnit) : Prop :=
  (r.deadline.isSome = true ↔ r.state = .locked) ∧ (r.restoreStart.isSome = true ↔ r.state = .stopped) ∧
  (r.state ≠ .acquiring → r.good = 0) ∧ (0 < r.slip ↔ r.state = .slipping) ∧ r.lastInterval ≤ 65535

theorem State.rhythmLegal_iff {s : State} : s.rhythmLegal ↔ s.rhythm.legal := Iff.rfl

theorem State.rhythmLegal.of_eq {s t : State} (h : s.rhythmLegal) (e : t.rhythm = s.rhythm) : t.rhythmLegal := by
  rw [State.rhythmLegal_iff, e]
  exact h

namespace RhythmUnit.legal

variable {r : RhythmUnit}

theorem lastInterval_le (h : r.legal) : r.lastInterval ≤ 65535 := h.2.2.2.2

theorem iff_of_stopped (hs : r.state = .stopped) :
    r.legal ↔ r.deadline = none ∧ r.restoreStart.isSome = true ∧ r.good = 0 ∧ r.slip = 0 ∧ r.lastInterval ≤ 65535 := by
  simp [RhythmUnit.legal, hs]

theorem iff_of_acquiring (hs : r.state = .acquiring) :
    r.legal ↔ r.deadline = none ∧ r.restoreStart = none ∧ r.slip = 0 ∧ r.lastInterval ≤ 65535 := by
  simp [RhythmUnit.legal, hs]

theorem iff_of_locked (hs : r.state = .locked) :
    r.legal ↔ r.deadline.isSome = true ∧ r.restoreStart = none ∧ r.good = 0 ∧ r.slip = 0 ∧ r.lastInterval ≤ 65535 := by
  simp [RhythmUnit.legal, hs]

theorem iff_of_slipping (hs : r.state = .slipping) :
    r.legal ↔ r.deadline = none ∧ r.restoreStart = none ∧ r.good = 0 ∧ 0 < r.slip ∧ r.lastInterval ≤ 65535 := by
  simp [RhythmUnit.legal, hs]

/-- Outside STOPPED the restore-idle timer does not run. -/
theorem restoreStart_eq_none (h : r.legal) (hs : r.state ≠ .stopped) : r.restoreStart = none :=
  Option.not_isSome_iff_eq_none.mp fun h' => hs (h.2.1.mp h')

/-- Back to ACQUIRING from any state but STOPPED, whatever intervals stay counted. -/
theorem reacquire (h : r.legal) (hs : r.state ≠ .stopped) :
    RhythmUnit.legal { r with state := .acquiring, good := 0, slip := 0, deadline := none } :=
  (iff_of_acquiring rfl).mpr ⟨rfl, h.restoreStart_eq_none hs, rfl, h.lastInterval_le⟩

/-- The good intervals kept, counted or lost in ACQUIRING. -/
theorem withGood (h : r.legal) (hs : r.state = .acquiring) (n : Nat) : RhythmUnit.legal { r with good := n } :=
  (iff_of_acquiring (by exact hs)).mpr ((iff_of_acquiring hs).mp h)

/-- LOCKED entered from any state but STOPPED. -/
theorem lock (h : r.legal) (hs : r.state ≠ .stopped) (d : Nat) :
    RhythmUnit.legal { r with state := .locked, good := 0, slip := 0, deadline := some d } :=
  (iff_of_locked rfl).mpr ⟨rfl, h.restoreStart_eq_none hs, rfl, rfl, h.lastInterval_le⟩

/-- STOPPED entered from any state. -/
theorem stop (h : r.legal) (now : Nat) :
    RhythmUnit.legal { r with
      state := .stopped, good := 0, slip := 0, deadline := none, restoreStart := some now, signalGiven := false } :=
  (iff_of_stopped rfl).mpr ⟨rfl, rfl, rfl, rfl, h.lastInterval_le⟩

theorem softReset (now : Nat) : (r.softReset now).legal :=
  (iff_of_stopped rfl).mpr ⟨rfl, rfl, rfl, rfl, Nat.zero_le _⟩

theorem fresh (now : Nat) : (freshRhythm now).legal :=
  (iff_of_stopped rfl).mpr ⟨rfl, rfl, rfl, rfl, Nat.zero_le _⟩

end RhythmUnit.legal

namespace State

variable {s : State}

/-! ## The Rhythm Monitor's answer to an index (06 R105 to R112) -/

theorem lockRhythm_rhythmLegal (h : s.rhythmLegal) (hs : s.rhythm.state ≠ .stopped) (n : Nat) :
    (s.lockRhythm n).rhythmLegal := RhythmUnit.legal.lock h hs _

theorem indexStopped_rhythmLegal (h : s.rhythmLegal) (hs : s.rhythm.state = .stopped) :
    s.indexStopped.rhythmLegal := by
  obtain ⟨hdeadline, -⟩ := (RhythmUnit.legal.iff_of_stopped hs).mp h
  exact (RhythmUnit.legal.iff_of_acquiring rfl).mpr ⟨hdeadline, rfl, rfl, Nat.zero_le _⟩

theorem indexAcquiring_rhythmLegal (h : s.rhythmLegal) (hs : s.rhythm.state = .acquiring) (j : Judgement) (n : Nat) :
    (s.indexAcquiring j n).rhythmLegal := by
  unfold indexAcquiring
  split
  · split
    · exact lockRhythm_rhythmLegal h (by simp [hs]) n
    · exact RhythmUnit.legal.withGood h hs _
  · exact RhythmUnit.legal.withGood h hs _

theorem indexLocked_rhythmLegal (h : s.rhythmLegal) (hs : s.rhythm.state = .locked) (j : Judgement) (n : Nat) :
    (s.indexLocked j n).rhythmLegal := by
  obtain ⟨-, hrestore, hgood, hslip, hinterval⟩ := (RhythmUnit.legal.iff_of_locked hs).mp h
  unfold indexLocked
  split
  · exact (RhythmUnit.legal.iff_of_locked (by exact hs)).mpr ⟨rfl, hrestore, hgood, hslip, hinterval⟩
  · exact (RhythmUnit.legal.iff_of_slipping rfl).mpr ⟨rfl, hrestore, hgood, Nat.one_pos, hinterval⟩

theorem indexSlipping_rhythmLegal (h : s.rhythmLegal) (hs : s.rhythm.state = .slipping) (j : Judgement) (n : Nat) :
    (s.indexSlipping j n).rhythmLegal := by
  obtain ⟨hdeadline, hrestore, hgood, -, hinterval⟩ := (RhythmUnit.legal.iff_of_slipping hs).mp h
  unfold indexSlipping
  split
  · exact lockRhythm_rhythmLegal h (by simp [hs]) n
  · split
    · exact (RhythmUnit.legal.iff_of_acquiring rfl).mpr ⟨hdeadline, hrestore, rfl, hinterval⟩
    · exact (RhythmUnit.legal.iff_of_slipping (by exact hs)).mpr
        ⟨hdeadline, hrestore, hgood, Nat.succ_pos _, hinterval⟩

/-- The interval that an edge measures is the stall timer's, which is held at 65535 (06 R106). -/
theorem measured_rhythmLegal (h : s.rhythmLegal) :
    (s.setRhythm { s.rhythm with lastInterval := s.stallTimer }).rhythmLegal := by
  obtain ⟨hdeadline, hrestore, hgood, hslip, -⟩ := h
  exact ⟨hdeadline, hrestore, hgood, hslip, Nat.min_le_left _ _⟩

theorem judgeEdge_rhythmLegal (h : s.rhythmLegal) : s.judgeEdge.rhythmLegal := by
  unfold judgeEdge
  split
  next hs => exact indexStopped_rhythmLegal h hs
  next hs => exact indexAcquiring_rhythmLegal (measured_rhythmLegal h) hs _ _
  next hs => exact indexLocked_rhythmLegal (measured_rhythmLegal h) hs _ _
  next hs => exact indexSlipping_rhythmLegal (measured_rhythmLegal h) hs _ _

theorem restartStall_rhythmLegal (h : s.rhythmLegal) : s.restartStall.rhythmLegal := h

/-! ## The stall and a change of period (06 R113, R114, R118) -/

theorem takeStall_rhythmLegal (h : s.rhythmLegal) : s.takeStall.rhythmLegal := RhythmUnit.legal.stop h s.now

theorem stallIfDue_rhythmLegal (h : s.rhythmLegal) : s.stallIfDue.rhythmLegal := by
  unfold stallIfDue
  split
  · exact takeStall_rhythmLegal h
  · exact h

theorem periodChange_rhythmLegal (h : s.rhythmLegal) : s.periodChange.rhythmLegal := by
  have relock (hs : s.rhythm.state = .locked ∨ s.rhythm.state = .slipping) : s.periodChange.rhythmLegal := by
    rw [periodChange_of_locked_or_slipping hs]
    exact stallIfDue_rhythmLegal (RhythmUnit.legal.reacquire h (by rcases hs with e | e <;> simp [e]))
  cases hs : s.rhythm.state with
  | stopped =>
    rw [periodChange_of_stopped hs]
    exact h
  | acquiring =>
    rw [periodChange_of_acquiring hs]
    exact stallIfDue_rhythmLegal (RhythmUnit.legal.withGood h hs 0)
  | locked => exact relock (.inl hs)
  | slipping => exact relock (.inr hs)

theorem handGrade_rhythmLegal (h : s.rhythmLegal) (g : Grade) : (s.handGrade g).rhythmLegal := by
  unfold handGrade
  split
  · exact h
  · exact periodChange_rhythmLegal h

/-! ## The Grade Selector hands on a change of grade (07 R125) -/

theorem restore_rhythmLegal (h : s.rhythmLegal) (r : RestoreSource) : (s.restore r).rhythmLegal := by
  unfold restore
  dsimp only
  split
  · exact h
  · exact handGrade_rhythmLegal (by exact h) _

theorem recomputeRestoring_rhythmLegal (h : s.rhythmLegal) (r : RestoreSource) :
    (s.recomputeRestoring r).rhythmLegal := by
  unfold recomputeRestoring
  dsimp only
  split
  · exact h
  · exact restore_rhythmLegal (by exact h) r

theorem advertise_rhythmLegal (h : s.rhythmLegal) (m : GradeSet) : (s.advertise m).rhythmLegal := by
  have ht : ((s.setGrade { s.grade with capability := m }).recomputeRestoring .advertise).rhythmLegal :=
    recomputeRestoring_rhythmLegal (by exact h) .advertise
  unfold advertise
  dsimp only
  split <;> exact ht

theorem giveRestoreIdle_rhythmLegal (h : s.rhythmLegal) : s.giveRestoreIdle.rhythmLegal :=
  restore_rhythmLegal (by exact h) .idle

theorem installSettings_rhythmLegal (h : s.rhythmLegal) (st : Settings) : (s.installSettings st).rhythmLegal := by
  have handed : (s.handSettings st).rhythmLegal := by
    unfold handSettings
    split
    · exact h
    · exact periodChange_rhythmLegal (s := s.newSettings st) h
  rw [installSettings_eq]
  by_cases hd : (s.handSettings st).restoreIdleDue
  · rw [restoreIdleIfDue_of_due hd]
    exact giveRestoreIdle_rhythmLegal handed
  · rw [restoreIdleIfDue_of_not_due hd]
    exact handed

theorem writeRecipe_rhythmLegal (h : s.rhythmLegal) (n : Fin 16) (r : Recipe) : (s.writeRecipe n r).rhythmLegal := by
  unfold writeRecipe
  dsimp only
  split
  · exact handGrade_rhythmLegal (by exact h) _
  · exact h

theorem takeOutcome_rhythmLegal (h : s.rhythmLegal) (o : StrokeOutcome) : (s.takeOutcome o).rhythmLegal := by
  cases o with
  | failing =>
    simp only [takeOutcome, failingOutcome]
    split
    · split
      · exact handGrade_rhythmLegal (by exact h) _
      · exact h
    · exact h
  | clean =>
    simp only [takeOutcome, cleanOutcome]
    split
    · split
      · exact handGrade_rhythmLegal (by exact h) _
      · exact h
    · exact h
  | neither => exact h

/-! ## The stroke hands its outcome to the selector (05 R97, R100) -/

theorem finishStroke_rhythmLegal (h : s.rhythmLegal) (x : StrokeContext) (c : EndCause) :
    (s.finishStroke x c).rhythmLegal := by
  unfold finishStroke handOutcome
  dsimp only
  rw [finishLanes_frame]
  refine takeOutcome_rhythmLegal ?_ _
  split <;> exact h

theorem releasePress_rhythm (s : State) : s.releasePress.rhythm = s.rhythm := by simp only [releasePress_frame]

theorem terminate_rhythmLegal (h : s.rhythmLegal) (c : EndCause) : (s.terminate c).rhythmLegal := by
  unfold terminate
  dsimp only
  split
  · exact (finishStroke_rhythmLegal (by exact h) _ c).of_eq (releasePress_rhythm _)
  · exact h.of_eq (releasePress_rhythm _)

theorem terminateAny_rhythmLegal (h : s.rhythmLegal) (c : EndCause) : (s.terminateAny c).rhythmLegal := by
  unfold terminateAny
  split
  · exact terminate_rhythmLegal h c
  · exact h

theorem haltRequest_rhythmLegal (h : s.rhythmLegal) (c : HaltCause) : (s.haltRequest c).rhythmLegal := by
  unfold haltRequest
  split
  · exact terminateAny_rhythmLegal h .stop
  · exact h

/-! ## The edges, the ticks and the timers -/

theorem trackIndex_rhythm (s : State) : s.trackIndex.rhythm = s.rhythm := by
  unfold trackIndex
  split <;> simp [advance_frame]

theorem pressIndex_rhythmLegal (h : s.rhythmLegal) : s.pressIndex.rhythmLegal := by
  unfold pressIndex
  split
  · split <;> exact h
  · exact haltRequest_rhythmLegal (by exact h) _
  · exact haltRequest_rhythmLegal (terminate_rhythmLegal h _) _
  · exact haltRequest_rhythmLegal (terminate_rhythmLegal h _) _
  · exact haltRequest_rhythmLegal h _
  · exact haltRequest_rhythmLegal h _

theorem handIndex_rhythmLegal (h : s.rhythmLegal) : s.handIndex.rhythmLegal := by
  have answered : s.trackIndex.pressIndex.rhythmLegal :=
    pressIndex_rhythmLegal (h.of_eq s.trackIndex_rhythm)
  unfold handIndex
  dsimp only
  split <;> exact answered

/-- Steps 1 to 3 of an accepted edge (06 R105). -/
theorem edgeJudged_rhythmLegal (h : s.rhythmLegal) : s.judgeEdge.restartStall.rhythmLegal :=
  restartStall_rhythmLegal (judgeEdge_rhythmLegal h)

theorem indexEdge_rhythmLegal (h : s.rhythmLegal) : s.indexEdge.rhythmLegal := by
  unfold indexEdge
  split
  · exact handIndex_rhythmLegal (edgeJudged_rhythmLegal h)
  · exact h

theorem warnPress_rhythmLegal (h : s.rhythmLegal) : s.warnPress.rhythmLegal := by
  unfold warnPress
  split
  case h_2 | h_3 => exact terminate_rhythmLegal h .warning
  all_goals exact h

theorem warnShows_rhythmLegal (h : s.rhythmLegal) (level : Bool) : (s.warnShows level).rhythmLegal := by
  unfold warnShows
  dsimp only
  split
  · split
    · exact warnPress_rhythmLegal h
    · exact h
  · exact h

theorem switchesShow_rhythm (s : State) (w : Switches) : (s.switchesShow w).rhythm = s.rhythm := by
  unfold switchesShow
  dsimp only
  (repeat' split) <;> rfl

theorem beginStroke_rhythm (s : State) : s.beginStroke.rhythm = s.rhythm := by
  have written (t : State) (ns : List Serial) : (ns.foldl writePressing t).rhythm = t.rhythm := by
    induction ns generalizing t with
    | nil => rfl
    | cons n ns ih => simp [ih, writePressing_frame]
  unfold beginStroke enterDwell
  dsimp only
  split <;> simp [written]

theorem sampleZones_rhythm (s : State) (codes : Quad (BitVec 12)) (px : BitVec 10) :
    (s.sampleZones codes px).rhythm = s.rhythm := by
  have raised (t : State) (ns : List Notice) : (ns.foldl raise t).rhythm = t.rhythm := by
    induction ns generalizing t with
    | nil => rfl
    | cons n ns ih => simp [ih]
  simp [sampleZones, raised]

theorem strokeTick_rhythmLegal (h : s.rhythmLegal) (codes : Quad (BitVec 12)) (px : BitVec 10) :
    (s.strokeTick codes px).rhythmLegal := by
  unfold strokeTick testSample
  dsimp only
  split
  · split
    · split
      · exact terminate_rhythmLegal (by exact h) .complete
      · split
        · exact terminate_rhythmLegal (by exact h) .dwellLimit
        · exact h
    · split <;> exact h
  · exact h

theorem closeTimedOut_rhythmLegal (h : s.rhythmLegal) : s.closeTimedOut.rhythmLegal := by
  have counted (p : PressUnit) : ((s.terminate .closeTimeout).setPress p).rhythmLegal :=
    terminate_rhythmLegal h .closeTimeout
  unfold closeTimedOut
  dsimp only
  split
  · exact haltRequest_rhythmLegal (counted _) _
  · exact counted _

theorem judgePrime_rhythm (s : State) : s.judgePrime.rhythm = s.rhythm := by
  unfold judgePrime
  (repeat' split) <;> rfl

/-- The loss of the supply and the assertion of RESET leave the rhythm to the settings load (09 R162, R163). -/
@[simp] theorem assertReset_rhythm (s : State) : s.assertReset.rhythm = s.rhythm := by simp [assertReset]

@[simp] theorem losePower_rhythm (s : State) : s.losePower.rhythm = s.rhythm := by simp [losePower, clearCounts]

theorem stopLine_rhythmLegal (h : s.rhythmLegal) : s.stopLine.rhythmLegal :=
  restore_rhythmLegal (by exact terminateAny_rhythmLegal h .stop) .stop

theorem stopPrime_rhythmLegal (h : s.rhythmLegal) : s.stopPrime.rhythmLegal :=
  restore_rhythmLegal (by exact h) .stop

theorem softReset_rhythmLegal (s : State) : s.softReset.rhythmLegal := RhythmUnit.legal.softReset _

theorem finishLoad_rhythmLegal (s : State) (k : ResetKind) (a : BitVec 5) (r : BitVec 2) :
    (s.finishLoad k a r).rhythmLegal := by
  unfold finishLoad
  dsimp only
  split <;> exact RhythmUnit.legal.fresh _

end State

/-! ## Commands -/

/-- A property that a request's rule keeps, and that does not speak of the Link Port, a request that may be
broadcast keeps. -/
theorem serveTo_preserves {P : State → Prop} (hlink : ∀ u x, P u → P (u.setLink x)) {dest : Dest} {i : Instr}
    {kind : Byte} {p : List Byte} {s t : State} {rule : State → Served} (hr : ∀ u, P u → P (rule u).1) (hs : P s)
    (h : serveTo dest i kind p s rule = .next t) : P t := by
  rcases serveTo_cases dest i kind p s rule with ⟨-, e⟩ | ⟨-, -, e⟩ | ⟨-, -, -, e⟩ | ⟨-, -, -, e⟩ <;> rw [e] at h
  · exact serve_preserves hlink hr hs h
  · cases h
    exact hs
  · cases h
    exact hlink s _ hs
  · cases h
    exact hr _ (hlink s _ hs)

theorem takeTrackRequest_rhythm {r : TrackRequest} {s t : State} (h : takeTrackRequest r s = .next t) :
    t.rhythm = s.rhythm := by
  obtain ⟨u, hu, e, -⟩ := takeTrackRequest_frame r s
  cases hu.symm.trans h
  exact (congrArg State.rhythm e :)

/-- The commands that may move the rhythm. -/
def movesRhythm (i : Instr) : Bool :=
  match i with
  | .configureLine _ | .writeRecipe _ | .assignRecipe _ | .recallSettings _ | .advertiseGrades _ | .restoreGrade _
  | .stop _ _ | .softReset _ _ | .indexEvent _ | .warnEdge _ _ | .closeTimeout | .openTimeout | .samplingTick _ _
  | .predictedDeadline | .stall | .restoreIdleSignal | .settingsLoad _ _ => true
  | _ => false

theorem writeRuleRule_rhythm (p : List Byte) (u : State) : (writeRuleRule p u).1.rhythm = u.rhythm := by
  unfold writeRuleRule
  repeat' split
  all_goals rfl

/-- Every other command leaves the rhythm as it is. -/
theorem exec_keeps_rhythm {i : Instr} {s t : State} (hi : movesRhythm i = false) (h : exec i s = .next t) :
    t.rhythm = s.rhythm := by
  have keep := @serve_preserves (fun u => u.rhythm = s.rhythm) fun _ _ hu => hu
  cases i with
  | configureLine | writeRecipe | assignRecipe | recallSettings | advertiseGrades | restoreGrade | stop | softReset
  | indexEvent | warnEdge | closeTimeout | openTimeout | samplingTick | predictedDeadline | stall
  | restoreIdleSignal | settingsLoad => cases hi
  | identify | status | clearFlags | setNoticeMask | fetchNotice | readLine | readRecipe | readRule | resume
  | setWindow | nextChunk | abort | setReturnSize | readCounts | clearCounts | storeSettings =>
    dsimp only [exec, execIdentify, execStatus, execClearFlags, execSetNoticeMask, execFetchNotice, execReadLine,
      execReadRecipe, execReadRule, execResume, execSetWindow, execNextChunk, execAbort, execSetReturnSize,
      execReadCounts, execClearCounts, execStoreSettings] at h
    refine keep (fun u hu => ?_) rfl h
    repeat' split
    all_goals exact hu
  | writeRule p => exact keep (fun u hu => (writeRuleRule_rhythm p u).trans hu) rfl h
  | start p =>
    refine keep (fun u hu => ?_) rfl (show execStart p s = .next t from h)
    unfold startIdle
    repeat' split
    all_goals exact hu
  | latchCounts dest p =>
    refine serveTo_preserves (P := fun u => u.rhythm = s.rhythm) (fun _ _ hu => hu) (fun u hu => ?_) rfl h
    repeat' split
    all_goals exact hu
  | reportFill p => exact takeTrackRequest_rhythm (r := .reportFill p) h
  | reportPlace p => exact takeTrackRequest_rhythm (r := .reportPlace p) h
  | reportVision p => exact takeTrackRequest_rhythm (r := .reportVision p) h
  | lookup p => exact takeTrackRequest_rhythm (r := .lookup p) h
  | markCard p => exact takeTrackRequest_rhythm (r := .markCard p) h
  | markWindow p => exact takeTrackRequest_rhythm (r := .markWindow p) h
  | readWindow p => exact takeTrackRequest_rhythm (r := .readWindow p) h
  | closedConfirmation after sw | openConfirmation after sw =>
    cases h
    exact (s.elapse after).switchesShow_rhythm sw
  | settleExpiry =>
    cases h
    dsimp only
    split
    · split
      · split
        · exact State.beginStroke_rhythm _
        · rfl
      · rfl
    · rfl
  | primeEnd =>
    cases h
    split
    · split
      · exact State.judgePrime_rhythm _
      · rfl
    · rfl
  | unknownKind | frameCrcDiscard | foreignFrame | broadcastIgnored | frameOverrunDiscard | lineIdleArmed
  | frameGapTimeout | linkByteReceived | replyAbandoned | replySent | replyBegin | flapDue | flapPulseEnd
  | storeComplete | resetRelease =>
    cases h
    repeat' split
    all_goals rfl
  | powerOn | powerLoss =>
    cases h
    simp
  | pinReset =>
    cases h
    split <;> simp

theorem takeTrackRequest_rhythmLegal {r : TrackRequest} {s t : State} (hs : s.rhythmLegal)
    (h : takeTrackRequest r s = .next t) : t.rhythmLegal := hs.of_eq (takeTrackRequest_rhythm h)

theorem execIndexEvent_rhythmLegal {edge : IndexEdge} {s t : State} (hs : s.rhythmLegal)
    (h : execIndexEvent edge s = .next t) : t.rhythmLegal := by
  have hs' : (s.elapse edge.after).rhythmLegal := hs
  unfold execIndexEvent at h
  dsimp only at h
  split at h
  · cases h
    exact State.indexEdge_rhythmLegal hs'
  · next r _ =>
    split at h
    · have advanced : (s.elapse edge.after).judgeEdge.restartStall.trackIndex.rhythmLegal :=
        (State.edgeJudged_rhythmLegal hs').of_eq (State.trackIndex_rhythm _)
      obtain ⟨u, hu, -⟩ := takeTrackRequest_frame r (s.elapse edge.after).judgeEdge.restartStall.trackIndex
      rw [hu] at h
      cases h
      exact State.pressIndex_rhythmLegal (takeTrackRequest_rhythmLegal advanced hu)
    · exact takeTrackRequest_rhythmLegal hs' h

theorem configureLineRule_rhythmLegal (p : List Byte) (u : State) (h : u.rhythmLegal) :
    (configureLineRule p u).1.rhythmLegal := by
  rcases configureLineRule_cases p u with e | ⟨-, e⟩ <;> rw [e]
  · exact h
  · exact State.installSettings_rhythmLegal h _

theorem writeRecipeRule_rhythmLegal (p : List Byte) (u : State) (h : u.rhythmLegal) :
    (writeRecipeRule p u).1.rhythmLegal := by
  rcases writeRecipeRule_cases p u with e | ⟨-, n, e⟩ <;> rw [e]
  · exact h
  · exact State.writeRecipe_rhythmLegal h n _

theorem assignRecipeRule_rhythmLegal (p : List Byte) (u : State) (h : u.rhythmLegal) :
    (assignRecipeRule p u).1.rhythmLegal := by
  unfold assignRecipeRule
  split
  · iterate 4
      split
      · exact h
    exact State.recomputeRestoring_rhythmLegal (by exact h) .assign
  all_goals exact h

/-- Every command keeps the rhythm legal. -/
theorem exec_rhythmLegal {i : Instr} {s t : State} (hs : s.rhythmLegal) (h : exec i s = .next t) :
    t.rhythmLegal := by
  by_cases hi : movesRhythm i = false
  · exact hs.of_eq (exec_keeps_rhythm hi h)
  have keep := @serve_preserves State.rhythmLegal fun _ _ hu => hu
  have keepTo := @serveTo_preserves State.rhythmLegal fun _ _ hu => hu
  cases i with
  | configureLine p => exact keep (configureLineRule_rhythmLegal p) hs h
  | writeRecipe p => exact keep (writeRecipeRule_rhythmLegal p) hs h
  | assignRecipe p => exact keep (assignRecipeRule_rhythmLegal p) hs h
  | recallSettings p =>
    refine keep (fun u hu => ?_) hs (show execRecallSettings p s = .next t from h)
    iterate 3
      split
      · exact hu
    split
    · exact hu
    · exact State.installSettings_rhythmLegal hu _
  | advertiseGrades p =>
    refine keep (fun u hu => ?_) hs (show execAdvertiseGrades p s = .next t from h)
    iterate 2
      split
      · exact hu
    exact State.advertise_rhythmLegal hu _
  | restoreGrade p =>
    refine keep (fun u hu => ?_) hs (show execRestoreGrade p s = .next t from h)
    split
    · exact hu
    · exact State.restore_rhythmLegal hu _
  | stop dest p =>
    refine keepTo (fun u hu => ?_) hs h
    split
    · exact hu
    · exact State.stopPrime_rhythmLegal hu
    · exact State.stopLine_rhythmLegal hu
    · exact State.stopLine_rhythmLegal hu
  | softReset dest p =>
    refine keepTo (fun u hu => ?_) hs h
    iterate 2
      split
      · exact hu
    exact u.softReset_rhythmLegal
  | indexEvent edge => exact execIndexEvent_rhythmLegal hs h
  | warnEdge after level =>
    cases h
    exact State.warnShows_rhythmLegal (by exact hs) level
  | closeTimeout =>
    cases h
    split
    · split
      · exact State.closeTimedOut_rhythmLegal (by exact hs)
      · exact hs
    · exact hs
  | openTimeout =>
    cases h
    dsimp only
    split
    · split
      · exact State.haltRequest_rhythmLegal (by exact hs) _
      · exact hs
    · exact hs
  | samplingTick codes px =>
    cases h
    split
    · exact State.strokeTick_rhythmLegal (hs.of_eq ((s.reach _).sampleZones_rhythm codes px)) codes px
    · exact hs
  | predictedDeadline =>
    cases h
    split
    · split
      · exact State.terminateAny_rhythmLegal (by exact hs) _
      · exact hs
    · exact hs
  | stall =>
    cases h
    split
    · exact State.takeStall_rhythmLegal (by exact hs)
    · exact hs
  | restoreIdleSignal =>
    cases h
    split
    · split
      · exact State.giveRestoreIdle_rhythmLegal (by exact hs)
      · exact hs
    · exact hs
  | settingsLoad address rate =>
    cases h
    split
    · exact s.finishLoad_rhythmLegal _ address rate
    all_goals exact hs
  | _ => exact absurd rfl hi

end Sys2Proof.Machine

namespace Sys2Proof.Proofs

open Sys2Proof.Machine

/-- Settles O54: a step runs a command on the queue's rest, or moves the clock alone. -/
theorem rhythmStaysLegal : Obligations.RhythmStaysLegal := by
  intro s t hs h
  unfold step at h
  split at h
  · next i rest _ => exact exec_rhythmLegal (s := s.setPending rest) hs h
  · cases h
    exact hs

end Sys2Proof.Proofs
end

section
/-! # STORE SETTINGS, STORE_COMPLETE and RECALL SETTINGS (10 R183, R184) -/

namespace Sys2Proof.Machine

section Store

variable {s : State}

/-- STORE SETTINGS outside STARTING with no store in progress (10 R183). -/
theorem storeSettings_begins (hh : s.hears (.storeSettings []) = true) (hm : s.mode.mode ≠ .starting)
    (hb : ¬s.storing) :
    exec (.storeSettings []) s = .next ({ s with store := ⟨none, false, true⟩ }.afterReply 0x60#8 [0#8]) := by
  refine (serve_eq_answer (t := s.frameTaken.setStore ⟨none, false, true⟩) hh (by rfl) ?_ :
    execStoreSettings [] s = _)
  simp only [State.frameTaken_starting, State.starting_eq_false hm, State.frameTaken_store,
    State.store_busy_eq_false hb]
  rfl

/-- STORE_COMPLETE of a store in progress (10 R183). -/
theorem storeComplete_stores (hp : s.phase = .running) (hb : s.storing) :
    exec .storeComplete s =
      .next { s with
        store := ⟨some s.settings, true, false⟩
        notices := s.notices.push s.settings.noticeMask (.store .stored) } := by
  have due : (s.running && s.store.busy) = true := Bool.and_eq_true_iff.mpr ⟨decide_eq_true hp, hb⟩
  exact (congrArg Host.Outcome.next (if_pos due) : execStoreComplete s = _)

/-- RECALL SETTINGS in RUN and HALTED (10 R184). -/
theorem recallSettings_tracking (hh : s.hears (.recallSettings []) = true) (hb : ¬s.storing)
    (hm : s.mode.mode = .run ∨ s.mode.mode = .halted) :
    exec (.recallSettings []) s = .next (s.afterReply 0x61#8 [4#8]) := by
  have hne : s.mode.mode ≠ .starting := by rcases hm with h | h <;> simp [h]
  refine (serve_eq_afterReply hh (by rfl) ?_ : execRecallSettings [] s = _)
  simp only [State.frameTaken_starting, State.starting_eq_false hne, State.frameTaken_store,
    State.store_busy_eq_false hb, State.frameTaken_tracking, State.tracking_iff.mpr hm]
  rfl

/-- RECALL SETTINGS in IDLE over a bad stored copy (10 R184). -/
theorem recallSettings_checksum (hh : s.hears (.recallSettings []) = true) (hb : ¬s.storing)
    (hm : s.mode.mode = .idle) (hst : s.store.stored = none) :
    exec (.recallSettings []) s = .next (s.afterReply 0x61#8 [16#8]) := by
  refine (serve_eq_afterReply hh (by rfl) ?_ : execRecallSettings [] s = _)
  simp only [State.frameTaken_starting, State.starting_eq_false (s := s) (by simp [hm]), State.frameTaken_store,
    State.store_busy_eq_false hb, State.frameTaken_tracking, State.tracking_eq_false hm, hst]
  rfl

/-- RECALL SETTINGS in IDLE over a good stored copy (10 R184). -/
theorem recallSettings_installs {st : Settings} (hh : s.hears (.recallSettings []) = true) (hb : ¬s.storing)
    (hm : s.mode.mode = .idle) (hst : s.store.stored = some st) :
    exec (.recallSettings []) s = .next ((s.frameTaken.installSettings st).answer 0x61#8 [0#8]) := by
  refine (serve_eq_answer hh (by rfl) ?_ : execRecallSettings [] s = _)
  simp only [State.frameTaken_starting, State.starting_eq_false (s := s) (by simp [hm]), State.frameTaken_store,
    State.store_busy_eq_false hb, State.frameTaken_tracking, State.tracking_eq_false hm, hst]
  rfl

end Store

end Sys2Proof.Machine

namespace Sys2Proof.Proofs

open Sys2Proof.Machine

/-- Settles O21: a recall installs the stored copy as CONFIGURE LINE installs its candidate, and in IDLE the selector
stands at full speed, so that nothing is restored. -/
theorem storeAndRecall : Obligations.StoreAndRecall := by
  intro s
  refine ⟨storeSettings_begins, storeComplete_stores, fun hh hb => ⟨recallSettings_tracking hh hb,
    recallSettings_checksum hh hb, fun st hm hst => ?_⟩⟩
  have installed := recallSettings_installs hh hb hm hst
  obtain ⟨-, -, -, hset, hstore, hmode, htrack, hzones, hpress, hdischarge, hlink⟩ :=
    s.frameTaken.installSettings_frame st
  obtain ⟨hcommon, hcapability, -⟩ := State.installSettings_grade (s := s.frameTaken) st
  have htaken (hg : s.gradeLegal) : s.settingsTaken (s.frameTaken.installSettings st) st := by
    obtain ⟨-, -, -, -, -, -, -, hfull⟩ := hg (State.phase_of_hears hh)
    obtain ⟨hfloor, hstrike, hclean, hrecovery⟩ := hfull (.inl hm)
    exact State.installSettings_taken (s := s.frameTaken) _ hfloor hstrike hclean hrecovery
  generalize s.frameTaken.installSettings st = t at *
  exact ⟨_, installed, hset, htrack, hcommon, hcapability, htaken, hstore, hdischarge, hpress, hzones, hmode,
    State.answer_link hlink _ _⟩

end Sys2Proof.Proofs
end

section
/-! # RESTORE GRADE, the restore-idle signal and the stall (06 R113, R115, R118; 07 R130 to R132) -/

namespace Sys2Proof.Machine

/-! ## Flags stay set (10 R173) -/

namespace NoticeUnit

variable {q : NoticeUnit} {f : EventFlag}

theorem hasFlag_setFlag_of_hasFlag (h : q.hasFlag f = true) (g : EventFlag) : (q.setFlag g).hasFlag f = true := by
  rw [hasFlag] at h
  simp [hasFlag, setFlag, h]

theorem hasFlag_setFlag_self (q : NoticeUnit) (f : EventFlag) : (q.setFlag f).hasFlag f = true := by
  have hf : f.bit < 12 := by cases f <;> decide
  simp [hasFlag, setFlag, hf]

/-- An event sets its flag and clears none. -/
theorem hasFlag_push_of_hasFlag_setFlag {n : Notice} (h : (q.setFlag n.flag).hasFlag f = true) (mask : BitVec 8) :
    (q.push mask n).hasFlag f = true := by
  rcases q.push_cases mask n with ⟨-, e⟩ | ⟨-, -, e⟩ | ⟨-, -, e⟩ <;> rw [e]
  · exact h
  · exact h
  · exact hasFlag_setFlag_of_hasFlag h _

theorem hasFlag_push_of_hasFlag (h : q.hasFlag f = true) (mask : BitVec 8) (n : Notice) :
    (q.push mask n).hasFlag f = true := hasFlag_push_of_hasFlag_setFlag (hasFlag_setFlag_of_hasFlag h _) mask

theorem hasFlag_push_self (q : NoticeUnit) (mask : BitVec 8) (n : Notice) : (q.push mask n).hasFlag n.flag = true :=
  hasFlag_push_of_hasFlag_setFlag (q.hasFlag_setFlag_self _) mask

end NoticeUnit

namespace State

variable {s : State}

theorem stallIfDue_hasFlag {f : EventFlag} (h : s.notices.hasFlag f = true) :
    s.stallIfDue.notices.hasFlag f = true := by
  unfold stallIfDue
  split
  · exact NoticeUnit.hasFlag_push_of_hasFlag h _ _
  · exact h

theorem periodChange_hasFlag {f : EventFlag} (h : s.notices.hasFlag f = true) :
    s.periodChange.notices.hasFlag f = true := by
  unfold periodChange
  refine stallIfDue_hasFlag ?_
  split
  · exact NoticeUnit.hasFlag_push_of_hasFlag h _ _
  · exact NoticeUnit.hasFlag_push_of_hasFlag h _ _
  · exact h
  · exact h

/-! ## The restore (07 R130) -/

/-- A restore that leaves the advised grade as it was moves the selector alone. -/
theorem restore_of_advised_eq (r : RestoreSource) (h : s.grade.restored.advised = s.grade.advised) :
    s.restore r = s.setGrade s.grade.restored := if_pos h

theorem restore_hasFlag_grade (r : RestoreSource) (h : s.grade.restored.advised ≠ s.grade.advised) :
    (s.restore r).notices.hasFlag .grade = true := by
  have e : s.restore r = ((s.setGrade s.grade.restored).gradeEvent .restore r s.grade).periodChange :=
    (if_neg h).trans (if_neg h)
  rw [e]
  exact periodChange_hasFlag (NoticeUnit.hasFlag_push_self _ _ _)

/-- In STOPPED there is no lock to lose, and the rhythm stays (06 R114). -/
theorem restore_rhythm_of_stopped (r : RestoreSource) (hs : s.rhythm.state = .stopped) :
    (s.restore r).rhythm = s.rhythm := by
  unfold restore handGrade
  dsimp only
  split
  · rfl
  · split
    · rfl
    · rw [periodChange_of_stopped (by exact hs)]
      rfl

end State

/-! ## The two timers of the rhythm (06 R113, R118) -/

theorem restoreIdleSignal_gives {s : State} {t0 : Nat} (hp : s.phase = .running) (hs : s.rhythm.state = .stopped)
    (ht : s.rhythm.restoreStart = some t0) (hg : s.rhythm.signalGiven = false) :
    exec .restoreIdleSignal s = .next (s.reach (t0 + 1000 * s.settings.line.restoreIdle)).giveRestoreIdle := by
  show execRestoreIdleSignal s = _
  simp [execRestoreIdleSignal, ht, State.running, hp, hs, hg]

theorem stall_taken {s : State} (hp : s.phase = .running) (hs : s.rhythm.state ≠ .stopped) :
    exec .stall s = .next (s.reach (s.rhythm.stallStart + 3 * s.expectedPeriod)).takeStall := by
  show execStall s = _
  simp [execStall, State.running, hp, hs]

/-- RESTORE GRADE outside STARTING (07 R131). -/
theorem restoreGrade_restores {s : State} (hh : s.hears (.restoreGrade []) = true) (hm : s.mode.mode ≠ .starting) :
    exec (.restoreGrade []) s =
      .next ((s.frameTaken.restore .request).answer 0x18#8
        [0#8, byte s.grade.floor.code, byte s.grade.advised.code,
          byte (s.frameTaken.restore .request).grade.floor.code,
          byte (s.frameTaken.restore .request).grade.advised.code]) := by
  refine (serve_eq_answer hh (by rfl) ?_ : execRestoreGrade [] s = _)
  rw [State.frameTaken_starting, State.starting_eq_false hm]
  rfl

end Sys2Proof.Machine

namespace Sys2Proof.Proofs

open Sys2Proof.Machine

/-- Settles O23: the request and the signal both give the restore of 07 R130, over a state that differs from the one
before in the Link Port, or in the clock and the signal noted. -/
theorem restoresAndStall : Obligations.RestoresAndStall := by
  unfold Obligations.RestoresAndStall
  intro restored
  have restores (u : State) (r : RestoreSource) : restored u (u.restore r) := by
    obtain ⟨-, -, -, -, hset, -, hmode, htrack, hzones, hpress, hdischarge, -, -⟩ := u.restore_frame r
    have hgrade := u.restore_grade r
    refine ⟨hgrade, fun h => ?_, fun h => ?_, hset, htrack, hpress, hdischarge, hmode, hzones⟩ <;> rw [hgrade] at h
    · rw [State.restore_of_advised_eq r h]
      rfl
    · exact State.restore_hasFlag_grade r h
  refine ⟨fun s hh hm => ?_, fun s t0 hp hs ht hg => ?_, fun s hp hs => ?_⟩
  · obtain ⟨hnow, -, -, -, -, -, -, -, -, -, -, hlink, -⟩ := s.frameTaken.restore_frame .request
    exact ⟨_, restoreGrade_restores hh hm, restores s.frameTaken .request, hnow, State.answer_link hlink _ _⟩
  · obtain ⟨hnow, -, -, -, -, -, -, -, -, -, -, hlink, -⟩ :=
      ((s.reach (t0 + 1000 * s.settings.line.restoreIdle)).setRhythm
        { s.rhythm with signalGiven := true }).restore_frame .idle
    exact ⟨_, restoreIdleSignal_gives hp hs ht hg, restores _ .idle, State.restore_rhythm_of_stopped _ hs, hnow,
      hlink⟩
  · exact stall_taken hp hs

end Sys2Proof.Proofs
end

section
/-! # The Grade Selector and the outcomes of strokes (07 R122, R123, R126 to R130) -/

namespace Sys2Proof.Machine

/-! ## The grades of a set (07 R123, R127, R129) -/

section Sets

variable {set : GradeSet} {f g : Grade}

/-- A member is the fastest one not faster than itself. -/
theorem fastestFrom_of_has (h : set.has g = true) : fastestFrom set g = some g := by
  cases g <;> simp [fastestFrom, Grade.all, Grade.code, h]

/-- A set that is not empty has a member not faster than G1. -/
theorem fastestFrom_g1_isSome (h : set ≠ 0#4) : (fastestFrom set .g1).isSome = true := by
  revert set
  decide

theorem has_of_fastestSlower (h : fastestSlower set f = some g) : set.has g = true ∧ f.code < g.code := by
  simpa using List.find?_some h

theorem has_of_slowestFaster (h : slowestFaster set f = some g) : set.has g = true ∧ g.code < f.code := by
  simpa using List.find?_some h

/-- The floor of a recovery leaves a grade to advise wherever the set has one (07 R129). -/
theorem fastestFrom_recovered_isSome (f : Grade) (h : set ≠ 0#4) :
    (fastestFrom set ((slowestFaster set f).getD .g1)).isSome = true := by
  cases hs : slowestFaster set f with
  | none => exact fastestFrom_g1_isSome h
  | some d => simp [fastestFrom_of_has (has_of_slowestFaster hs).1]

end Sets

/-! ## A failing outcome (07 R126 to R128) -/

/-- The selector with a strike more and both runs broken, before the strikes are tested. -/
def GradeUnit.struck (g : GradeUnit) : GradeUnit := { g with strike := g.strike + 1, cleanRun := 0, recovery := 0 }

namespace State

section Failing

variable {s : State}

theorem failingOutcome_of_lt (h : s.grade.strike + 1 < s.settings.line.strikeLimit) :
    s.failingOutcome = s.setGrade s.grade.struck := if_neg (Nat.not_le.mpr h)

theorem failingOutcome_of_slower {dest : Grade} (h : s.settings.line.strikeLimit ≤ s.grade.strike + 1)
    (hd : fastestSlower s.grade.common s.grade.advised = some dest) :
    s.failingOutcome = (s.setGrade s.grade.struck).downgrade dest := by
  refine (if_pos h).trans ?_
  simp only [setGrade_grade, hd]
  rfl

theorem failingOutcome_of_slowest (h : s.settings.line.strikeLimit ≤ s.grade.strike + 1)
    (hd : fastestSlower s.grade.common s.grade.advised = none) :
    s.failingOutcome = (s.setGrade s.grade.struck).limitHold := by
  refine (if_pos h).trans ?_
  simp only [setGrade_grade, hd]
  rfl

/-- A downgrade counts itself in the bank and moves floor and advised grade to the slower grade. -/
theorem downgrade_frame (s : State) (dest : Grade) :
    (s.downgrade dest).grade =
      { s.grade with floor := dest, advised := dest, lines := gradeLines dest, strike := 0 } ∧
    (s.downgrade dest).discharge.bank.downgrades = satInc s.discharge.bank.downgrades := by
  simp only [downgrade, handGrade_frame]
  exact ⟨rfl, rfl⟩

theorem handGrade_hasFlag {f : EventFlag} (before : Grade) (h : s.notices.hasFlag f = true) :
    (s.handGrade before).notices.hasFlag f = true := by
  unfold handGrade
  split
  · exact h
  · exact periodChange_hasFlag h

theorem downgrade_hasFlag_grade (s : State) (dest : Grade) : (s.downgrade dest).notices.hasFlag .grade = true :=
  handGrade_hasFlag _ (NoticeUnit.hasFlag_push_self _ _ _)

/-- A change of the advised grade leaves neither a lock nor a deadline (06 R114). -/
theorem handGrade_unlocks {before : Grade} (hb : s.grade.advised ≠ before)
    (hr : s.rhythm.state = .locked ∨ s.rhythm.state = .slipping) :
    (s.handGrade before).rhythm.deadline = none ∧ (s.handGrade before).rhythm.state ≠ .locked := by
  obtain ⟨-, -, moved⟩ := s.handGrade_taken before
  obtain ⟨hkept, hstalled⟩ := moved hb hr
  by_cases due : 3 * s.expectedPeriod ≤ s.stallTimer
  · rw [(hstalled due).1]
    exact ⟨rfl, by simp⟩
  · rw [(hkept due).1]
    exact ⟨rfl, by simp⟩

theorem downgrade_unlocks {dest : Grade} (hd : dest ≠ s.grade.advised)
    (hr : s.rhythm.state = .locked ∨ s.rhythm.state = .slipping) :
    (s.downgrade dest).rhythm.deadline = none ∧ (s.downgrade dest).rhythm.state ≠ .locked :=
  handGrade_unlocks (by exact hd) (by exact hr)

/-- A hold clears the strikes and raises its event, the SEAL_LIMIT flag first (07 R128). -/
theorem limitHold_frame (s : State) :
    s.limitHold.grade = { s.grade with strike := 0 } ∧ s.limitHold.rhythm = s.rhythm ∧
    s.limitHold.discharge = s.discharge := ⟨rfl, rfl, rfl⟩

theorem limitHold_hasFlag_sealLimit (s : State) : s.limitHold.notices.hasFlag .sealLimit = true :=
  NoticeUnit.hasFlag_push_of_hasFlag (s.notices.hasFlag_setFlag_self .sealLimit) _ _

end Failing

/-! ## A clean outcome (07 R126, R129) -/

/-- A recovery moves the floor to the next faster grade of the set and advises anew. -/
theorem recoverGrade_grade (s : State) :
    s.recoverGrade.grade =
      { s.grade with floor := (slowestFaster s.grade.common s.grade.advised).getD .g1, recovery := 0 }.advise := by
  simp only [recoverGrade, handGrade_frame]
  rfl

end State

namespace GradeUnit

variable {g : GradeUnit} {cleanRun : Nat}

theorem countClean_of_le (h : cleanRun ≤ g.cleanRun + 1) :
    g.countClean cleanRun = { g with strike := 0, cleanRun := 0 } := if_pos h

theorem countClean_of_lt (h : g.cleanRun + 1 < cleanRun) :
    g.countClean cleanRun = { g with cleanRun := g.cleanRun + 1 } := if_neg (Nat.not_le.mpr h)

/-- A clean outcome counted moves the strike and clean-run counts alone. -/
theorem countClean_frame (g : GradeUnit) (cleanRun : Nat) :
    (g.countClean cleanRun).capability = g.capability ∧ (g.countClean cleanRun).common = g.common ∧
    (g.countClean cleanRun).floor = g.floor ∧ (g.countClean cleanRun).advised = g.advised ∧
    (g.countClean cleanRun).recovery = g.recovery ∧ (g.countClean cleanRun).lines = g.lines := by
  unfold countClean
  split <;> exact ⟨rfl, rfl, rfl, rfl, rfl, rfl⟩

/-- A clean outcome counted in both runs, before the recovery count is tested. -/
def countBoth (g : GradeUnit) (cleanRun : Nat) : GradeUnit :=
  { g.countClean cleanRun with recovery := g.recovery + 1 }

end GradeUnit

namespace State

variable {s : State}

/-- At floor G1 and with `recover_run` at 0 the recovery count does not run. -/
theorem cleanOutcome_of_not_counting (h : s.grade.floor = .g1 ∨ s.settings.line.recoverRun = 0) :
    s.cleanOutcome = s.setGrade (s.grade.countClean s.settings.line.cleanRun) := by
  refine if_neg ?_
  rw [(s.grade.countClean_frame _).2.2.1]
  rintro ⟨hf, hr⟩
  exact h.elim hf (Nat.ne_of_gt hr)

theorem cleanOutcome_of_counting (hf : s.grade.floor ≠ .g1) (hr : 0 < s.settings.line.recoverRun) :
    s.cleanOutcome =
      if s.settings.line.recoverRun ≤ s.grade.recovery + 1 then
        (s.setGrade (s.grade.countBoth s.settings.line.cleanRun)).recoverGrade
      else s.setGrade (s.grade.countBoth s.settings.line.cleanRun) := by
  obtain ⟨-, -, hfloor, -, hrecovery, -⟩ := s.grade.countClean_frame s.settings.line.cleanRun
  refine (if_pos ⟨by rwa [hfloor], hr⟩).trans ?_
  simp only [setGrade_grade, hrecovery]
  rfl

/-- Whether or not a recovery follows, the strikes and the clean run are as the count leaves them (07 R126). -/
theorem cleanOutcome_counts (s : State) :
    s.cleanOutcome.grade.strike = (s.grade.countClean s.settings.line.cleanRun).strike ∧
    s.cleanOutcome.grade.cleanRun = (s.grade.countClean s.settings.line.cleanRun).cleanRun := by
  by_cases h : s.grade.floor = .g1 ∨ s.settings.line.recoverRun = 0
  · rw [cleanOutcome_of_not_counting h]
    exact ⟨rfl, rfl⟩
  · obtain ⟨hf, hr⟩ := not_or.mp h
    rw [cleanOutcome_of_counting hf (Nat.pos_of_ne_zero hr)]
    split
    · rw [recoverGrade_grade]
      exact ⟨rfl, rfl⟩
    · exact ⟨rfl, rfl⟩

end State

end Sys2Proof.Machine

namespace Sys2Proof.Proofs

open Sys2Proof.Machine

/-- A failing outcome at the strike limit: the downgrade, or the hold (07 R127, R128). -/
theorem failing_at_limit {s : State} (h : s.settings.line.strikeLimit ≤ s.grade.strike + 1) :
    (∀ dest, fastestSlower s.grade.common s.grade.advised = some dest →
      (s.takeOutcome .failing).grade =
        { s.grade with floor := dest, advised := dest, lines := gradeLines dest, strike := 0, cleanRun := 0,
                       recovery := 0 } ∧
      (s.takeOutcome .failing).discharge.bank.downgrades = satInc s.discharge.bank.downgrades ∧
      (s.takeOutcome .failing).notices.hasFlag .grade = true ∧
      (s.rhythm.state = .locked ∨ s.rhythm.state = .slipping →
        (s.takeOutcome .failing).rhythm.deadline = none ∧ (s.takeOutcome .failing).rhythm.state ≠ .locked)) ∧
    (fastestSlower s.grade.common s.grade.advised = none →
      (s.takeOutcome .failing).grade = { s.grade with strike := 0, cleanRun := 0, recovery := 0 } ∧
      (s.takeOutcome .failing).notices.hasFlag .sealLimit = true ∧
      (s.takeOutcome .failing).rhythm = s.rhythm ∧ (s.takeOutcome .failing).discharge = s.discharge) := by
  refine ⟨fun dest hd => ?_, fun hd => ?_⟩
  · have slower : dest ≠ s.grade.advised := by
      rintro rfl
      exact Nat.lt_irrefl _ (has_of_fastestSlower hd).2
    have e : s.takeOutcome .failing = _ := State.failingOutcome_of_slower h hd
    obtain ⟨hgrade, hbank⟩ := (s.setGrade s.grade.struck).downgrade_frame dest
    rw [e]
    exact ⟨hgrade, hbank, State.downgrade_hasFlag_grade _ dest,
      State.downgrade_unlocks (s := s.setGrade s.grade.struck) slower⟩
  · have e : s.takeOutcome .failing = _ := State.failingOutcome_of_slowest h hd
    obtain ⟨hgrade, hrhythm, hdischarge⟩ := (s.setGrade s.grade.struck).limitHold_frame
    rw [e]
    exact ⟨hgrade, State.limitHold_hasFlag_sealLimit _, hrhythm, hdischarge⟩

/-- A clean outcome: the forgiveness, and the recovery count with the recovery (07 R126, R129). -/
theorem clean_counted (s : State) :
    let counted := (s.takeOutcome .clean).grade
    (s.settings.line.cleanRun ≤ s.grade.cleanRun + 1 → counted.strike = 0 ∧ counted.cleanRun = 0) ∧
    (s.grade.cleanRun + 1 < s.settings.line.cleanRun →
      counted.strike = s.grade.strike ∧ counted.cleanRun = s.grade.cleanRun + 1) ∧
    (s.grade.floor = .g1 ∨ s.settings.line.recoverRun = 0 →
      counted.recovery = s.grade.recovery ∧ counted.floor = s.grade.floor ∧ counted.advised = s.grade.advised) ∧
    (s.grade.floor ≠ .g1 → s.grade.recovery + 1 < s.settings.line.recoverRun →
      counted.recovery = s.grade.recovery + 1 ∧ counted.floor = s.grade.floor ∧
      counted.advised = s.grade.advised) ∧
    (s.grade.floor ≠ .g1 → 0 < s.settings.line.recoverRun → s.settings.line.recoverRun ≤ s.grade.recovery + 1 →
      counted.recovery = 0 ∧ counted.floor = (slowestFaster s.grade.common s.grade.advised).getD .g1 ∧
      counted.advised = (fastestFrom s.grade.common counted.floor).getD s.grade.advised) := by
  intro counted
  have hcounted : counted = s.cleanOutcome.grade := rfl
  obtain ⟨hstrike, hclean⟩ := s.cleanOutcome_counts
  obtain ⟨-, hcommon, hfloor, hadvised, hrecovery, -⟩ := s.grade.countClean_frame s.settings.line.cleanRun
  rw [hcounted]
  refine ⟨fun h => ?_, fun h => ?_, fun h => ?_, fun hf h => ?_, fun hf hr h => ?_⟩
  · rw [hstrike, hclean, GradeUnit.countClean_of_le h]
    exact ⟨rfl, rfl⟩
  · rw [hstrike, hclean, GradeUnit.countClean_of_lt h]
    exact ⟨rfl, rfl⟩
  · rw [State.cleanOutcome_of_not_counting h]
    exact ⟨hrecovery, hfloor, hadvised⟩
  · rw [State.cleanOutcome_of_counting hf (by omega), if_neg (Nat.not_le.mpr h)]
    exact ⟨rfl, hfloor, hadvised⟩
  · rw [State.cleanOutcome_of_counting hf hr, if_pos h, State.recoverGrade_grade]
    simp [GradeUnit.countBoth, GradeUnit.advise, hcommon, hadvised]

/-- Settles O24, outcome by outcome. -/
theorem outcomesMoveTheFloor : Obligations.OutcomesMoveTheFloor := by
  intro s
  refine ⟨rfl, fun h => ?_, failing_at_limit, clean_counted s⟩
  have e : s.takeOutcome .failing = _ := State.failingOutcome_of_lt h
  rw [e]
  exact ⟨rfl, rfl⟩

end Sys2Proof.Proofs
end

section
/-! # ADVERTISE GRADES (07 R121 to R124, R133) -/

namespace Sys2Proof.Machine

/-! ## Flags that an event leaves alone (10 R173) -/

namespace NoticeUnit

variable {q : NoticeUnit} {f g : EventFlag}

theorem hasFlag_setFlag_other (q : NoticeUnit) (h : f ≠ g) : (q.setFlag g).hasFlag f = q.hasFlag f := by
  have hbit : ∀ f g : EventFlag, f ≠ g → (1#12 <<< g.bit).getLsbD f.bit = false := by
    intro f g
    cases f <;> cases g <;> decide
  simp [hasFlag, setFlag, hbit f g h]

/-- An event sets its own flag, and QUEUE_OVERFLOW where the queue is full, and no other. -/
theorem hasFlag_push_other (q : NoticeUnit) (mask : BitVec 8) {n : Notice} (hn : f ≠ n.flag) (ho : f ≠ .queueOverflow) :
    (q.push mask n).hasFlag f = q.hasFlag f := by
  have hset : (q.setFlag n.flag).hasFlag f = q.hasFlag f := q.hasFlag_setFlag_other hn
  rcases q.push_cases mask n with ⟨-, e⟩ | ⟨-, -, e⟩ | ⟨-, -, e⟩ <;> rw [e]
  · exact hset
  · exact hset
  · rw [hasFlag_setFlag_other _ ho]
    exact hset

end NoticeUnit

namespace State

variable (s : State)

/-! ## GRADE_CONFLICT is no flag of the Rhythm Monitor or of a restore -/

theorem stallIfDue_gradeConflict :
    s.stallIfDue.notices.hasFlag .gradeConflict = s.notices.hasFlag .gradeConflict := by
  unfold stallIfDue
  split
  · exact NoticeUnit.hasFlag_push_other _ _ (by simp [Notice.flag]) (by simp)
  · rfl

theorem periodChange_gradeConflict :
    s.periodChange.notices.hasFlag .gradeConflict = s.notices.hasFlag .gradeConflict := by
  unfold periodChange
  rw [stallIfDue_gradeConflict]
  split
  · exact NoticeUnit.hasFlag_push_other _ _ (by simp [Notice.flag]) (by simp)
  · exact NoticeUnit.hasFlag_push_other _ _ (by simp [Notice.flag]) (by simp)
  · rfl
  · rfl

theorem handGrade_gradeConflict (before : Grade) :
    (s.handGrade before).notices.hasFlag .gradeConflict = s.notices.hasFlag .gradeConflict := by
  unfold handGrade
  split
  · rfl
  · exact s.periodChange_gradeConflict

theorem restore_gradeConflict (r : RestoreSource) :
    (s.restore r).notices.hasFlag .gradeConflict = s.notices.hasFlag .gradeConflict := by
  unfold restore
  dsimp only
  split
  · rfl
  · rw [handGrade_gradeConflict]
    exact NoticeUnit.hasFlag_push_other _ _ (by simp [Notice.flag]) (by simp)

theorem recomputeRestoring_gradeConflict (r : RestoreSource) :
    (s.recomputeRestoring r).notices.hasFlag .gradeConflict = s.notices.hasFlag .gradeConflict := by
  unfold recomputeRestoring
  dsimp only
  split
  · rfl
  · exact restore_gradeConflict _ r

/-! ## A recomputation, by whether the set changes (07 R133) -/

variable {s}

theorem recomputeRestoring_of_common_eq (r : RestoreSource)
    (h : commonSet s.settings s.grade.capability = s.grade.common) : s.recomputeRestoring r = s := if_pos h

theorem recomputeRestoring_grade_of_common_ne (r : RestoreSource)
    (h : commonSet s.settings s.grade.capability ≠ s.grade.common) :
    (s.recomputeRestoring r).grade =
      { s.grade with common := commonSet s.settings s.grade.capability }.restored := by
  rw [recomputeRestoring, if_neg h, restore_grade]
  rfl

/-! ## The conflict event (07 R124) -/

/-- The CONFLICT event moves the notices alone, and sets its flag. -/
theorem conflictEvent_frame (s : State) (asked : GradeUnit) :
    (∃ n, s.conflictEvent asked = s.setNotices n) ∧
    (s.conflictEvent asked).notices.hasFlag .gradeConflict = true :=
  ⟨⟨_, rfl⟩, NoticeUnit.hasFlag_push_of_hasFlag (s.notices.hasFlag_setFlag_self .gradeConflict) _ _⟩

/-! ## The mask taken (07 R121) -/

/-- The state with a new capability mask, before anything is computed from it. -/
def withCapability (s : State) (mask : GradeSet) : State := s.setGrade { s.grade with capability := mask }

/-- The event of a request that empties the set comes after the recomputation, and moves the notices alone. -/
theorem advertise_eq (s : State) (mask : GradeSet) :
    ∃ n, s.advertise mask = ((s.withCapability mask).recomputeRestoring .advertise).setNotices n ∧
      (n.hasFlag .gradeConflict = true ↔
        s.notices.hasFlag .gradeConflict = true ∨ (commonSet s.settings mask = 0#4 ∧ s.grade.common ≠ 0#4)) ∧
      (commonSet s.settings mask = s.grade.common → n = s.notices) := by
  let t := (s.withCapability mask).recomputeRestoring .advertise
  have hcommon : t.grade.common = commonSet s.settings mask :=
    ((s.withCapability mask).recomputeRestoring_grade .advertise).1
  have hflag : t.notices.hasFlag .gradeConflict = s.notices.hasFlag .gradeConflict :=
    (s.withCapability mask).recomputeRestoring_gradeConflict .advertise
  by_cases h : commonSet s.settings mask = 0#4 ∧ s.grade.common ≠ 0#4
  · have e : s.advertise mask = t.conflictEvent s.grade := if_pos (by rwa [← hcommon] at h)
    obtain ⟨⟨n, hn⟩, hset⟩ := t.conflictEvent_frame s.grade
    refine ⟨n, e.trans hn, ?_, fun he => absurd (he.symm.trans h.1) h.2⟩
    rw [hn] at hset
    exact iff_of_true hset (.inr h)
  · have e : s.advertise mask = t := if_neg (by rwa [← hcommon] at h)
    refine ⟨t.notices, e, ?_, fun he => ?_⟩
    · rw [hflag, or_iff_left h]
    · exact (congrArg State.notices (recomputeRestoring_of_common_eq (s := s.withCapability mask) .advertise he) :)

theorem advertise_frame (s : State) (mask : GradeSet) :
    (s.advertise mask).settings = s.settings ∧ (s.advertise mask).track = s.track ∧
    (s.advertise mask).press = s.press ∧ (s.advertise mask).discharge = s.discharge ∧
    (s.advertise mask).mode = s.mode ∧ (s.advertise mask).zones = s.zones ∧ (s.advertise mask).store = s.store ∧
    (s.advertise mask).link = s.link := by
  obtain ⟨n, e, -⟩ := s.advertise_eq mask
  rw [e]
  simp [recomputeRestoring_frame, withCapability]

/-- The mask replaced and the set anew. -/
theorem advertise_common (s : State) (mask : GradeSet) :
    (s.advertise mask).grade.capability = mask ∧
    (s.advertise mask).grade.common = commonSet s.settings mask := by
  obtain ⟨n, e, -⟩ := s.advertise_eq mask
  obtain ⟨hcommon, -, -, hcapability⟩ := (s.withCapability mask).recomputeRestoring_grade .advertise
  rw [e]
  exact ⟨hcapability, hcommon⟩

theorem advertise_gradeConflict (s : State) (mask : GradeSet) :
    (s.advertise mask).notices.hasFlag .gradeConflict = true ↔
      s.notices.hasFlag .gradeConflict = true ∨ (commonSet s.settings mask = 0#4 ∧ s.grade.common ≠ 0#4) := by
  obtain ⟨n, e, hflag, -⟩ := s.advertise_eq mask
  rw [e]
  exact hflag

/-- A mask that leaves the set as it was moves nothing else. -/
theorem advertise_of_common_eq {mask : GradeSet} (h : commonSet s.settings mask = s.grade.common) :
    s.advertise mask = s.withCapability mask := by
  obtain ⟨n, e, -, hn⟩ := s.advertise_eq mask
  rw [e, hn h, recomputeRestoring_of_common_eq (s := s.withCapability mask) .advertise h]
  rfl

/-- A mask that changes the set restores. -/
theorem advertise_grade_of_common_ne {mask : GradeSet} (h : commonSet s.settings mask ≠ s.grade.common) :
    (s.advertise mask).grade =
      { s.grade with capability := mask, common := commonSet s.settings mask }.restored := by
  obtain ⟨n, e, -⟩ := s.advertise_eq mask
  rw [e]
  exact recomputeRestoring_grade_of_common_ne (s := s.withCapability mask) .advertise h

end State

section Advertise

variable {m : Byte} {s : State}

theorem advertiseGrades_out_of_range (hh : s.hears (.advertiseGrades [m]) = true) (hm : s.mode.mode ≠ .starting)
    (h : 15 < m.toNat) : exec (.advertiseGrades [m]) s = .next (s.afterReply 0x17#8 [5#8]) := by
  refine (serve_eq_afterReply hh (by rfl) ?_ : execAdvertiseGrades [m] s = _)
  rw [State.frameTaken_starting, State.starting_eq_false hm]
  exact if_pos h

theorem advertiseGrades_taken (hh : s.hears (.advertiseGrades [m]) = true) (hm : s.mode.mode ≠ .starting)
    (h : m.toNat ≤ 15) :
    let t := s.frameTaken.advertise (BitVec.ofNat 4 m.toNat)
    exec (.advertiseGrades [m]) s =
      .next (t.answer 0x17#8 [0#8, byte t.grade.capability.toNat, byte t.grade.common.toNat,
        byte t.grade.floor.code, byte t.grade.advised.code]) := by
  refine (serve_eq_answer hh (by rfl) ?_ : execAdvertiseGrades [m] s = _)
  rw [State.frameTaken_starting, State.starting_eq_false hm]
  exact if_neg (Nat.not_lt.mpr h)

end Advertise

end Sys2Proof.Machine

namespace Sys2Proof.Proofs

open Sys2Proof.Machine

/-- Settles O22: the mask taken, by whether it changes the common set. -/
theorem advertiseGradesTaken : Obligations.AdvertiseGradesTaken := by
  intro m s hh hm
  refine ⟨advertiseGrades_out_of_range hh hm, fun h => ?_⟩
  have taken := advertiseGrades_taken hh hm h
  have hmask : (BitVec.ofNat 4 m.toNat).toNat = m.toNat := Nat.mod_eq_of_lt (by omega)
  obtain ⟨hset, htrack, hpress, hdischarge, hmode, hzones, hstore, hlink⟩ :=
    s.frameTaken.advertise_frame (BitVec.ofNat 4 m.toNat)
  obtain ⟨hcapability, hcommon⟩ := s.frameTaken.advertise_common (BitVec.ofNat 4 m.toNat)
  have hconflict := s.frameTaken.advertise_gradeConflict (BitVec.ofNat 4 m.toNat)
  have hsame := State.advertise_of_common_eq (s := s.frameTaken) (mask := BitVec.ofNat 4 m.toNat)
  have hchanged := State.advertise_grade_of_common_ne (s := s.frameTaken) (mask := BitVec.ofNat 4 m.toNat)
  rw [← hcommon] at hconflict hsame hchanged
  generalize s.frameTaken.advertise (BitVec.ofNat 4 m.toNat) = t at *
  refine ⟨_, taken, hcapability, hcommon, fun he => ?_, fun hne => ?_, hconflict, hset, htrack, hpress, hdischarge,
    hmode, hzones, hstore, ?_⟩
  · rw [hsame he]
    exact ⟨rfl, rfl, rfl⟩
  · rw [State.answer_grade, hchanged hne]
    exact ⟨rfl, rfl, rfl, rfl, rfl, rfl⟩
  · rw [State.answer_link hlink, hcapability, hmask]
    rfl

end Sys2Proof.Proofs
end

section
/-! # The grades stay legal (07 R120, R122, R123, R126, R129, R136)

In the running part the selector is legal for the working settings, and at full speed in IDLE and STARTING. An outcome
is taken in RUN alone, where nothing is asked of the speed; whatever else moves the selector recomputes it from a
selector at full speed, or restores it. -/

namespace Sys2Proof.Machine

/-! ## A legal selector -/

/-- What `State.gradeLegal` asks of the selector in every mode of the running part. -/
structure GradeUnit.legal (g : GradeUnit) (st : Settings) : Prop where
  common_eq : g.common = commonSet st g.capability
  advised_eq : g.common ≠ 0#4 → fastestFrom g.common g.floor = some g.advised
  lines_eq : g.lines = gradeLines g.advised
  strike_lt : g.strike < st.line.strikeLimit
  cleanRun_lt : g.cleanRun < st.line.cleanRun
  recovery_eq_zero : g.floor = .g1 ∨ st.line.recoverRun = 0 → g.recovery = 0
  recovery_lt : 0 < st.line.recoverRun → g.recovery < st.line.recoverRun

/-- The floor at G1 and the three counts 0, as in IDLE and STARTING (07 R136). -/
def GradeUnit.fullSpeed (g : GradeUnit) : Prop := g.floor = .g1 ∧ g.strike = 0 ∧ g.cleanRun = 0 ∧ g.recovery = 0

theorem State.gradeLegal_iff {s : State} :
    s.gradeLegal ↔ (s.phase = .running →
      s.grade.legal s.settings ∧ (s.mode.mode = .idle ∨ s.mode.mode = .starting → s.grade.fullSpeed)) :=
  forall_congr' fun _ =>
    ⟨fun ⟨h1, h2, h3, h4, h5, h6, h7, h8⟩ => ⟨⟨h1, h2, h3, h4, h5, h6, h7⟩, h8⟩,
      fun ⟨⟨h1, h2, h3, h4, h5, h6, h7⟩, h8⟩ => ⟨h1, h2, h3, h4, h5, h6, h7, h8⟩⟩

/-- Every count at 0 is below its limit in legal settings (01 section 1.1). -/
theorem Settings.legal.limits_pos {st : Settings} (h : st.legal) :
    0 < st.line.strikeLimit ∧ 0 < st.line.cleanRun := by
  obtain ⟨hrange, -⟩ := h
  unfold LineConfig.inRange at hrange
  omega

namespace GradeUnit

variable {g : GradeUnit} {st : Settings}

/-- A selector advised anew is legal where its set and counts are and its floor leaves a grade to advise. -/
theorem advise_legal (hcommon : g.common = commonSet st g.capability)
    (hsome : g.common ≠ 0#4 → (fastestFrom g.common g.floor).isSome = true)
    (hstrike : g.strike < st.line.strikeLimit) (hclean : g.cleanRun < st.line.cleanRun) (hrecovery : g.recovery = 0) :
    g.advise.legal st where
  common_eq := hcommon
  advised_eq hne := by
    obtain ⟨a, ha⟩ := Option.isSome_iff_exists.mp (hsome hne)
    simp [advise, ha]
  lines_eq := rfl
  strike_lt := hstrike
  cleanRun_lt := hclean
  recovery_eq_zero _ := hrecovery
  recovery_lt hpos := show g.recovery < st.line.recoverRun by rwa [hrecovery]

theorem advise_legal_of_fullSpeed (hst : st.legal) (hcommon : g.common = commonSet st g.capability)
    (hfull : g.fullSpeed) : g.advise.legal st := by
  obtain ⟨hfloor, hstrike, hclean, hrecovery⟩ := hfull
  obtain ⟨hstrikePos, hcleanPos⟩ := hst.limits_pos
  refine advise_legal hcommon (fun hne => ?_) (by rwa [hstrike]) (by rwa [hclean]) hrecovery
  rw [hfloor]
  exact fastestFrom_g1_isSome hne

theorem restored_legal (hst : st.legal) (hcommon : g.common = commonSet st g.capability) :
    g.restored.legal st ∧ g.restored.fullSpeed :=
  ⟨advise_legal_of_fullSpeed (g := { g with floor := .g1, strike := 0, cleanRun := 0, recovery := 0 }) hst hcommon
    ⟨rfl, rfl, rfl, rfl⟩, rfl, rfl, rfl, rfl⟩

namespace legal

/-- New counts, each below its limit. -/
theorem recount (h : g.legal st) {strike cleanRun recovery : Nat} (hstrike : strike < st.line.strikeLimit)
    (hclean : cleanRun < st.line.cleanRun) (hzero : g.floor = .g1 ∨ st.line.recoverRun = 0 → recovery = 0)
    (hrecovery : 0 < st.line.recoverRun → recovery < st.line.recoverRun) :
    GradeUnit.legal { g with strike := strike, cleanRun := cleanRun, recovery := recovery } st :=
  { h with strike_lt := hstrike, cleanRun_lt := hclean, recovery_eq_zero := hzero, recovery_lt := hrecovery }

/-- Both runs broken, with some number of strikes below the limit. -/
theorem breakRuns (h : g.legal st) (hst : st.legal) {strike : Nat} (hstrike : strike < st.line.strikeLimit) :
    GradeUnit.legal { g with strike := strike, cleanRun := 0, recovery := 0 } st :=
  h.recount hstrike hst.limits_pos.2 (fun _ => rfl) id

/-- The downgrade to a slower member, its counts cleared (07 R127). -/
theorem downgrade (h : g.legal st) (hst : st.legal) {dest : Grade} (hd : g.common.has dest = true) :
    GradeUnit.legal
      { g with floor := dest, advised := dest, lines := gradeLines dest, strike := 0, cleanRun := 0, recovery := 0 }
      st :=
  { h.breakRuns hst hst.limits_pos.1 with
    advised_eq := fun _ => fastestFrom_of_has hd
    lines_eq := rfl
    recovery_eq_zero := fun _ => rfl }

theorem countClean (h : g.legal st) (hst : st.legal) : (g.countClean st.line.cleanRun).legal st := by
  obtain ⟨hstrikePos, hcleanPos⟩ := hst.limits_pos
  rcases Nat.lt_or_ge (g.cleanRun + 1) st.line.cleanRun with hlt | hle
  · rw [countClean_of_lt hlt]
    exact h.recount h.strike_lt hlt h.recovery_eq_zero h.recovery_lt
  · rw [countClean_of_le hle]
    exact h.recount hstrikePos hcleanPos h.recovery_eq_zero h.recovery_lt

/-- A recovery not yet due counts one clean outcome more (07 R129). -/
theorem countBoth (h : g.legal st) (hst : st.legal) (hfloor : g.floor ≠ .g1)
    (hlt : g.recovery + 1 < st.line.recoverRun) : (g.countBoth st.line.cleanRun).legal st := by
  have hc := h.countClean hst
  refine hc.recount hc.strike_lt hc.cleanRun_lt (fun hz => ?_) fun _ => hlt
  rw [(g.countClean_frame _).2.2.1] at hz
  rcases hz with hz | hz
  · exact absurd hz hfloor
  · omega

/-- A recovery leaves a floor that the set has, or G1 (07 R129). -/
theorem recover (h : g.legal st) :
    GradeUnit.legal (GradeUnit.advise
      { g with floor := (slowestFaster g.common g.advised).getD .g1, recovery := 0 }) st :=
  advise_legal h.common_eq (fastestFrom_recovered_isSome _) h.strike_lt h.cleanRun_lt rfl

end legal

end GradeUnit

/-! ## An outcome taken (07 R126 to R129) -/

namespace State

variable {s : State}

theorem failingOutcome_legal (hst : s.settings.legal) (h : s.grade.legal s.settings) :
    s.failingOutcome.grade.legal s.settings := by
  rcases Nat.lt_or_ge (s.grade.strike + 1) s.settings.line.strikeLimit with hlt | hle
  · rw [failingOutcome_of_lt hlt]
    exact h.breakRuns hst hlt
  · cases hd : fastestSlower s.grade.common s.grade.advised with
    | none =>
      rw [failingOutcome_of_slowest hle hd]
      exact h.breakRuns hst hst.limits_pos.1
    | some dest =>
      rw [failingOutcome_of_slower hle hd, (downgrade_frame _ dest).1]
      exact h.downgrade hst (has_of_fastestSlower hd).1

theorem cleanOutcome_legal (hst : s.settings.legal) (h : s.grade.legal s.settings) :
    s.cleanOutcome.grade.legal s.settings := by
  by_cases hcount : s.grade.floor = .g1 ∨ s.settings.line.recoverRun = 0
  · rw [cleanOutcome_of_not_counting hcount]
    exact h.countClean hst
  · obtain ⟨hfloor, hrun⟩ := not_or.mp hcount
    rw [cleanOutcome_of_counting hfloor (Nat.pos_of_ne_zero hrun)]
    split
    · rw [recoverGrade_grade]
      exact (h.countClean hst).recover
    · next hlt => exact h.countBoth hst hfloor (Nat.not_le.mp hlt)

theorem takeOutcome_legal (hst : s.settings.legal) (h : s.grade.legal s.settings) (o : StrokeOutcome) :
    (s.takeOutcome o).grade.legal s.settings := by
  cases o with
  | failing => exact failingOutcome_legal hst h
  | clean => exact cleanOutcome_legal hst h
  | neither => exact h.breakRuns hst h.strike_lt

/-! ## Grades legal in a state -/

theorem gradeLegal_of_not_running (h : s.phase ≠ .running) : s.gradeLegal := fun hp => absurd hp h

/-- In RUN and HALTED nothing is asked of the speed. -/
theorem gradeLegal_of_tracking (hm : s.mode.mode = .run ∨ s.mode.mode = .halted)
    (h : s.phase = .running → s.grade.legal s.settings) : s.gradeLegal :=
  gradeLegal_iff.mpr fun hp => ⟨h hp, by rcases hm with e | e <;> simp [e]⟩

/-- Restored over the set that its settings give, a selector is legal in every mode. -/
theorem gradeLegal_of_restored (hst : s.settings.legal) {g : GradeUnit} (e : s.grade = g.restored)
    (hcommon : s.phase = .running → g.common = commonSet s.settings g.capability) : s.gradeLegal := by
  refine gradeLegal_iff.mpr fun hp => ?_
  obtain ⟨hlegal, hfull⟩ := GradeUnit.restored_legal hst (hcommon hp)
  rw [e]
  exact ⟨hlegal, fun _ => hfull⟩

theorem gradeLegal.legal (h : s.gradeLegal) (hp : s.phase = .running) : s.grade.legal s.settings :=
  (gradeLegal_iff.mp h hp).1

theorem gradeLegal.fullSpeed (h : s.gradeLegal) (hp : s.phase = .running)
    (hm : s.mode.mode = .idle ∨ s.mode.mode = .starting) : s.grade.fullSpeed := (gradeLegal_iff.mp h hp).2 hm

theorem periodChange_gradeLegal (h : s.gradeLegal) : s.periodChange.gradeLegal := by
  simp only [gradeLegal, periodChange_frame]
  exact h

theorem handGrade_gradeLegal (h : s.gradeLegal) (g : Grade) : (s.handGrade g).gradeLegal := by
  simp only [gradeLegal, handGrade_frame]
  exact h

/-! ## Restores and recomputations (07 R122, R130, R133) -/

theorem restore_gradeLegal (hst : s.settings.legal)
    (hcommon : s.phase = .running → s.grade.common = commonSet s.settings s.grade.capability) (r : RestoreSource) :
    (s.restore r).gradeLegal := by
  obtain ⟨-, -, hphase, -, hset, -⟩ := s.restore_frame r
  rw [← hset] at hst hcommon
  rw [← hphase] at hcommon
  exact gradeLegal_of_restored hst (s.restore_grade r) hcommon

theorem giveRestoreIdle_gradeLegal (hst : s.settings.legal) (h : s.gradeLegal) : s.giveRestoreIdle.gradeLegal :=
  restore_gradeLegal (s := s.setRhythm { s.rhythm with signalGiven := true }) hst (fun hp => (h.legal hp).common_eq)
    .idle

/-- Where a change of the settings or of the mask leaves the set as it was, the selector stays legal, and otherwise it
is restored; `hsame` says that of the first case. -/
theorem recomputeRestoring_gradeLegal (hst : s.settings.legal)
    (hsame : commonSet s.settings s.grade.capability = s.grade.common → s.gradeLegal) (r : RestoreSource) :
    (s.recomputeRestoring r).gradeLegal := by
  by_cases hc : commonSet s.settings s.grade.capability = s.grade.common
  · rw [recomputeRestoring_of_common_eq r hc]
    exact hsame hc
  · obtain ⟨-, -, -, -, hset, -⟩ := s.recomputeRestoring_frame r
    rw [← hset] at hst
    refine gradeLegal_of_restored hst (recomputeRestoring_grade_of_common_ne r hc) fun _ => ?_
    rw [hset]

theorem advertise_gradeLegal (hst : s.settings.legal) (h : s.gradeLegal) (mask : GradeSet) :
    (s.advertise mask).gradeLegal := by
  obtain ⟨n, e, -⟩ := s.advertise_eq mask
  rw [e]
  refine recomputeRestoring_gradeLegal (s := s.withCapability mask) hst (fun hc => ?_) .advertise
  exact gradeLegal_iff.mpr fun hp => ⟨{ h.legal hp with common_eq := hc.symm }, h.fullSpeed hp⟩

theorem assign_gradeLegal (hst : s.settings.legal) (h : s.gradeLegal) (l : Lane) (n : Fin 16) :
    ((s.setSettings (s.settings.assign l n)).recomputeRestoring .assign).gradeLegal := by
  refine recomputeRestoring_gradeLegal (by exact hst) (fun hc => ?_) .assign
  exact gradeLegal_iff.mpr fun hp => ⟨{ h.legal hp with common_eq := hc.symm }, h.fullSpeed hp⟩

/-- New settings over a selector at full speed. -/
theorem recomputeCommon_gradeLegal (hst : s.settings.legal) (hfull : s.phase = .running → s.grade.fullSpeed) :
    s.recomputeCommon.gradeLegal :=
  gradeLegal_iff.mpr fun hp =>
    ⟨GradeUnit.advise_legal_of_fullSpeed (g := { s.grade with common := commonSet s.settings s.grade.capability }) hst
      rfl (hfull hp), fun _ => hfull hp⟩

theorem newSettings_gradeLegal {st : Settings} (hst : st.legal) (hm : s.mode.mode = .idle) (h : s.gradeLegal) :
    (s.newSettings st).gradeLegal :=
  recomputeCommon_gradeLegal (s := (s.setSettings st).rebuildTrack) hst fun hp => h.fullSpeed hp (.inl hm)

theorem installSettings_gradeLegal {st : Settings} (hst : st.legal) (hm : s.mode.mode = .idle) (h : s.gradeLegal) :
    (s.installSettings st).gradeLegal := by
  have handed : (s.handSettings st).gradeLegal := by
    unfold handSettings
    split
    · exact newSettings_gradeLegal hst hm h
    · exact periodChange_gradeLegal (newSettings_gradeLegal hst hm h)
  rw [installSettings_eq]
  by_cases hd : (s.handSettings st).restoreIdleDue
  · rw [restoreIdleIfDue_of_due hd]
    refine giveRestoreIdle_gradeLegal ?_ handed
    rw [(s.handSettings_frame st).2.1]
    exact hst
  · rw [restoreIdleIfDue_of_not_due hd]
    exact handed

end State

/-- A recipe that no enabled lane has is no source of the common set (07 R122). -/
theorem commonSet_setRecipe {st : Settings} {n : Fin 16} (h : st.assignedToEnabled n = false) (r : Recipe)
    (c : GradeSet) : commonSet (st.setRecipe n r) c = commonSet st c := by
  refine congrArg (fun f => Lane.all.foldl f c) (funext fun acc => funext fun l => ?_)
  have hl : l ∈ Lane.all := by cases l <;> decide
  have hother : st.enabled l = true → st.assigned.lane l ≠ n := fun he hn => by
    have := List.any_eq_false.mp h l hl
    simp [he, hn] at this
  by_cases he : st.enabled l = true
  · have he' : (st.setRecipe n r).enabled l = true := he
    rw [if_pos he, if_pos he']
    exact congrArg (fun x : Recipe => acc &&& x.grades) (Settings.recipe_setRecipe_other st (hother he) r)
  · have he' : ¬(st.setRecipe n r).enabled l = true := he
    rw [if_neg he, if_neg he']

theorem State.writeRecipe_gradeLegal {s : State} {n : Fin 16} {r : Recipe}
    (hst : (s.settings.setRecipe n r).legal) (hm : s.mode.mode = .idle ∨ s.settings.assignedToEnabled n = false)
    (h : s.gradeLegal) : (s.writeRecipe n r).gradeLegal := by
  cases ha : s.settings.assignedToEnabled n with
  | true =>
    have hidle : s.mode.mode = .idle := hm.resolve_right (by simp [ha])
    have e : s.writeRecipe n r =
        (s.setSettings (s.settings.setRecipe n r)).recomputeCommon.handGrade s.grade.advised := if_pos ha
    rw [e]
    exact State.handGrade_gradeLegal
      (State.recomputeCommon_gradeLegal (s := s.setSettings (s.settings.setRecipe n r))
        hst fun hp => h.fullSpeed hp (.inl hidle)) _
  | false =>
    rw [State.writeRecipe_of_not_assigned ha]
    refine State.gradeLegal_iff.mpr fun hp => ⟨{ h.legal hp with common_eq := ?_ }, h.fullSpeed hp⟩
    exact (h.legal hp).common_eq.trans (commonSet_setRecipe ha r _).symm

/-! ## The stroke and the press (05 R97, R100, R103) -/

/-- A state whose grades a stroke's outcome keeps legal: in legal settings, a stroke with RUN alone (05 R83). -/
structure State.outcomeReady (s : State) : Prop where
  settings_legal : s.settings.legal
  run_of_inStroke : s.press.state.inStroke = true → s.mode.mode = .run
  gradeLegal : s.gradeLegal

namespace State

variable {s : State}

theorem finishStroke_gradeLegal (hst : s.settings.legal) (hm : s.mode.mode = .run) (h : s.gradeLegal)
    (x : StrokeContext) (c : EndCause) : (s.finishStroke x c).gradeLegal := by
  obtain ⟨-, -, hphase, -, hset, -, hmode, -⟩ := s.finishStroke_frame x c
  refine gradeLegal_of_tracking (.inl (by rw [hmode, hm])) fun hp => ?_
  rw [hphase] at hp
  rw [hset]
  unfold finishStroke handOutcome
  dsimp only
  rw [finishLanes_frame]
  split <;> exact takeOutcome_legal (by exact hst) (by exact h.legal hp) _

theorem releasePress_gradeLegal (h : s.gradeLegal) : s.releasePress.gradeLegal := by
  simp only [State.gradeLegal, releasePress_frame]
  exact h

theorem terminate_gradeLegal (hst : s.settings.legal) (hm : s.mode.mode = .run) (h : s.gradeLegal) (c : EndCause) :
    (s.terminate c).gradeLegal := by
  unfold terminate
  dsimp only
  split
  · refine releasePress_gradeLegal (finishStroke_gradeLegal ?_ ?_ ?_ _ c)
    · exact hst
    · exact hm
    · exact h
  · exact releasePress_gradeLegal h

namespace outcomeReady

theorem terminateAny (h : s.outcomeReady) (c : EndCause) : (s.terminateAny c).gradeLegal := by
  unfold State.terminateAny
  split
  · next hs => exact terminate_gradeLegal h.settings_legal (h.run_of_inStroke hs) h.gradeLegal c
  · exact h.gradeLegal

end outcomeReady

theorem haltRequest_gradeLegal (hst : s.settings.legal) (h : s.gradeLegal) (c : HaltCause) :
    (s.haltRequest c).gradeLegal := by
  unfold haltRequest
  split
  · next hm =>
    have ended : (s.terminateAny .stop).gradeLegal := outcomeReady.terminateAny ⟨hst, fun _ => hm, h⟩ .stop
    exact gradeLegal_of_tracking (.inr rfl) ended.legal
  · exact h

theorem terminateAny_settings (s : State) (c : EndCause) : (s.terminateAny c).settings = s.settings := by
  simp only [terminateAny_frame]

theorem terminate_settings (s : State) (c : EndCause) : (s.terminate c).settings = s.settings := by
  simp only [terminate_frame]

/-- A termination, and then the halt request it brings (05 R92, R96). -/
theorem terminate_haltRequest_gradeLegal (hst : s.settings.legal) (hm : s.mode.mode = .run) (h : s.gradeLegal)
    (e : EndCause) (c : HaltCause) : ((s.terminate e).haltRequest c).gradeLegal :=
  haltRequest_gradeLegal (by rwa [terminate_settings]) (terminate_gradeLegal hst hm h e) c

/-! ## The edges, the ticks and the timers -/

theorem judgeEdge_eq (s : State) :
    s.judgeEdge = (s.setRhythm s.judgeEdge.rhythm).setNotices s.judgeEdge.notices := by
  unfold judgeEdge indexAcquiring indexLocked indexSlipping
  dsimp only
  repeat' split
  all_goals rfl

namespace outcomeReady

theorem edgeJudged (h : s.outcomeReady) : s.judgeEdge.restartStall.outcomeReady := by
  rw [judgeEdge_eq]
  exact ⟨h.settings_legal, h.run_of_inStroke, h.gradeLegal⟩

theorem trackIndex (h : s.outcomeReady) : s.trackIndex.outcomeReady := by
  unfold State.trackIndex
  split
  · obtain ⟨x, n, d, e⟩ := trackSide.advance s
    rw [e]
    exact ⟨h.settings_legal, h.run_of_inStroke, h.gradeLegal⟩
  · exact h

theorem pressIndex (h : s.outcomeReady) : s.pressIndex.gradeLegal := by
  obtain ⟨hst, hrun, hg⟩ := h
  unfold State.pressIndex
  split
  · split <;> exact hg
  · exact haltRequest_gradeLegal (by exact hst) (by exact hg) _
  case h_3 hs | h_4 hs => exact terminate_haltRequest_gradeLegal hst (hrun (by rw [hs]; rfl)) hg _ _
  all_goals exact haltRequest_gradeLegal hst hg _

theorem handIndex (h : s.outcomeReady) : s.handIndex.gradeLegal := by
  have answered : s.trackIndex.pressIndex.gradeLegal := h.trackIndex.pressIndex
  unfold State.handIndex
  dsimp only
  split <;> exact answered

theorem indexEdge (h : s.outcomeReady) : s.indexEdge.gradeLegal := by
  unfold State.indexEdge
  split
  · exact h.edgeJudged.handIndex
  · exact h.gradeLegal

theorem warnPress (h : s.outcomeReady) : s.warnPress.gradeLegal := by
  obtain ⟨hst, hrun, hg⟩ := h
  unfold State.warnPress
  split
  case h_2 hs | h_3 hs => exact terminate_gradeLegal hst (hrun (by rw [hs]; rfl)) hg .warning
  all_goals exact hg

theorem warnShows (h : s.outcomeReady) (level : Bool) : (s.warnShows level).gradeLegal := by
  unfold State.warnShows
  dsimp only
  split
  · split
    · exact warnPress ⟨h.settings_legal, h.run_of_inStroke, h.gradeLegal⟩
    · exact h.gradeLegal
  · exact h.gradeLegal

theorem sampleZones (h : s.outcomeReady) (codes : Quad (BitVec 12)) (px : BitVec 10) :
    (s.sampleZones codes px).outcomeReady := by
  unfold State.sampleZones
  refine List.foldlRecOn _ State.raise ?_ fun t ht n _ => ?_
  · exact ⟨h.settings_legal, h.run_of_inStroke, h.gradeLegal⟩
  · exact ⟨ht.settings_legal, ht.run_of_inStroke, ht.gradeLegal⟩

theorem strokeTick (h : s.outcomeReady) (codes : Quad (BitVec 12)) (px : BitVec 10) :
    (s.strokeTick codes px).gradeLegal := by
  obtain ⟨hst, hrun, hg⟩ := h
  unfold State.strokeTick testSample
  dsimp only
  split
  · split
    · next hs =>
      have hm : s.mode.mode = .run := hrun (by rw [hs]; rfl)
      split
      · exact terminate_gradeLegal (by exact hst) (by exact hm) (by exact hg) .complete
      · split
        · exact terminate_gradeLegal (by exact hst) (by exact hm) (by exact hg) .dwellLimit
        · exact hg
    · split <;> exact hg
  · exact hg

theorem closeTimedOut (h : s.outcomeReady) (hs : s.press.state = .closing) : s.closeTimedOut.gradeLegal := by
  obtain ⟨hst, hrun, hg⟩ := h
  have hm : s.mode.mode = .run := hrun (by rw [hs]; rfl)
  have ended (p : PressUnit) : ((s.terminate .closeTimeout).setPress p).gradeLegal :=
    terminate_gradeLegal hst hm hg .closeTimeout
  unfold State.closeTimedOut
  dsimp only
  split
  · refine haltRequest_gradeLegal ?_ (ended _) _
    rw [setPress_settings, terminate_settings]
    exact hst
  · exact ended _

end outcomeReady

theorem switchesShow_gradeLegal (h : s.gradeLegal) (w : Switches) : (s.switchesShow w).gradeLegal := by
  unfold switchesShow
  dsimp only
  (repeat' split) <;> exact h

theorem beginStroke_gradeLegal (h : s.gradeLegal) : s.beginStroke.gradeLegal := by
  have written (t : State) (ht : t.gradeLegal) (ns : List Serial) : (ns.foldl writePressing t).gradeLegal := by
    refine List.foldlRecOn ns writePressing ht fun u hu n _ => ?_
    simp only [gradeLegal, writePressing_frame]
    exact hu
  unfold beginStroke enterDwell
  dsimp only
  split <;> exact written _ (by exact h) _

/-! ## Modes and resets (07 R135, R136) -/

/-- The end of the prime leaves STARTING for RUN, or for IDLE, where full speed stands as before (09 R157). -/
theorem judgePrime_gradeLegal (hm : s.mode.mode = .starting) (h : s.gradeLegal) : s.judgePrime.gradeLegal := by
  have entered (m : Mode) : (s.enterMode m .none).gradeLegal :=
    gradeLegal_iff.mpr fun hp => ⟨h.legal hp, fun _ => h.fullSpeed hp (.inr hm)⟩
  unfold judgePrime
  (repeat' split) <;> exact entered _

/-- STOP ends the stroke first, whose outcome the restore then clears (09 R160). -/
theorem stopLine_gradeLegal (h : s.outcomeReady) : s.stopLine.gradeLegal := by
  have ended : (s.terminateAny .stop).gradeLegal := h.terminateAny .stop
  have hset : s.stopLine.settings = s.settings := s.stopLine_settings.1
  have hgrade : s.stopLine.grade = (s.terminateAny .stop).grade.restored :=
    restore_grade (s.terminateAny .stop).purge .stop
  have hphase : s.stopLine.phase = (s.terminateAny .stop).phase := by simp [stopLine, restore_frame]
  refine gradeLegal_of_restored (s := s.stopLine) (by rw [hset]; exact h.settings_legal) hgrade fun hp => ?_
  rw [hset, ← s.terminateAny_settings .stop]
  exact (ended.legal (hphase.symm.trans hp)).common_eq

theorem stopPrime_gradeLegal (hst : s.settings.legal) (h : s.gradeLegal) : s.stopPrime.gradeLegal := by
  have hset : s.stopPrime.settings = s.settings := s.stopPrime_settings.1
  have hgrade : s.stopPrime.grade = s.grade.restored := restore_grade _ .stop
  have hphase : s.stopPrime.phase = s.phase := by simp [stopPrime, restore_frame]
  refine gradeLegal_of_restored (s := s.stopPrime) (by rwa [hset]) hgrade fun hp => ?_
  rw [hset]
  exact (h.legal (hphase.symm.trans hp)).common_eq

/-- A soft reset restores over the set of the working settings (07 R135). -/
theorem softReset_gradeLegal (hst : s.settings.legal) : s.softReset.gradeLegal := by
  have hset : s.softReset.settings = s.settings := s.softReset_settings.1
  have hgrade : s.softReset.grade = (s.terminateAny .stop).grade.afterReset (s.terminateAny .stop).settings := by
    simp [softReset]
  rw [GradeUnit.afterReset] at hgrade
  refine gradeLegal_of_restored (s := s.softReset) (by rwa [hset]) hgrade fun _ => ?_
  rw [hset, terminateAny_settings]

/-- A settings load starts from all four grades (07 R135). -/
theorem finishLoad_gradeLegal (h : s.settingsLegal) (k : ResetKind) (a : BitVec 5) (r : BitVec 2) :
    (s.finishLoad k a r).gradeLegal := by
  have hset : (s.finishLoad k a r).settings = s.store.stored.getD defaultSettings := (s.finishLoad_settings k a r).1
  have hgrade : (s.finishLoad k a r).grade = freshGrade (s.store.stored.getD defaultSettings) := by
    unfold finishLoad
    dsimp only
    split <;> rfl
  refine gradeLegal_of_restored (s.finishLoad_settingsLegal h k a r).1 hgrade fun _ => ?_
  rw [hset]

end State

/-! ## Commands -/

/-- A property that does not speak of the Link Port, and that the rule of a request gives where the request is
served, a request keeps. -/
theorem serve_keeps {P : State → Prop} (hlink : ∀ u x, P u → P (u.setLink x)) {i : Instr} {kind : Byte}
    {p : List Byte} {s t : State} {rule : State → Served} (hs : P s) (hr : P (rule s.frameTaken).1)
    (h : serve i kind p s rule = .next t) : P t := by
  rcases serve_cases i kind p s rule with ⟨-, e⟩ | ⟨-, -, e⟩ | ⟨-, -, e⟩ <;> rw [e] at h <;> cases h
  · exact hs
  · exact hlink s _ hs
  · exact hlink _ _ hr

/-- The same of a request that may be broadcast. -/
theorem serveTo_keeps {P : State → Prop} (hlink : ∀ u x, P u → P (u.setLink x)) {dest : Dest} {i : Instr}
    {kind : Byte} {p : List Byte} {s t : State} {rule : State → Served} (hs : P s) (hr : P (rule s.frameTaken).1)
    (h : serveTo dest i kind p s rule = .next t) : P t := by
  rcases serveTo_cases dest i kind p s rule with ⟨-, e⟩ | ⟨-, -, e⟩ | ⟨-, -, -, e⟩ | ⟨-, -, -, e⟩ <;> rw [e] at h
  · exact serve_keeps hlink hs hr h
  · cases h
    exact hs
  · cases h
    exact hlink s _ hs
  · cases h
    exact hr

theorem State.outcomeReady.takeTrackRequest {r : TrackRequest} {s t : State} (hs : s.outcomeReady)
    (h : takeTrackRequest r s = .next t) : t.outcomeReady := by
  obtain ⟨u, hu, e, -⟩ := takeTrackRequest_frame r s
  cases hu.symm.trans h
  rw [← e] at hs
  exact ⟨hs.settings_legal, hs.run_of_inStroke, hs.gradeLegal⟩

theorem takeTrackRequest_gradeLegal {r : TrackRequest} {s t : State} (hs : s.gradeLegal)
    (h : takeTrackRequest r s = .next t) : t.gradeLegal := by
  obtain ⟨u, hu, e, -⟩ := takeTrackRequest_frame r s
  cases hu.symm.trans h
  rw [← e] at hs
  exact hs

theorem execIndexEvent_gradeLegal {edge : IndexEdge} {s t : State} (hs : s.outcomeReady)
    (h : execIndexEvent edge s = .next t) : t.gradeLegal := by
  have hs' : (s.elapse edge.after).outcomeReady := ⟨hs.settings_legal, hs.run_of_inStroke, hs.gradeLegal⟩
  unfold execIndexEvent at h
  dsimp only at h
  split at h
  · cases h
    exact hs'.indexEdge
  · next r _ =>
    split at h
    · obtain ⟨u, hu, -⟩ := takeTrackRequest_frame r (s.elapse edge.after).judgeEdge.restartStall.trackIndex
      rw [hu] at h
      cases h
      exact (hs'.edgeJudged.trackIndex.takeTrackRequest hu).pressIndex
    · exact (hs'.takeTrackRequest h).gradeLegal

/-! ### The rules of the requests -/

section Rules

variable {s : State}

theorem State.idle_of_not (hs : ¬s.starting = true) (ht : ¬s.tracking = true) : s.mode.mode = .idle := by
  cases hm : s.mode.mode with
  | idle => rfl
  | starting => exact absurd (State.starting_iff.mpr hm) hs
  | run => exact absurd (State.tracking_iff.mpr (.inl hm)) ht
  | halted => exact absurd (State.tracking_iff.mpr (.inr hm)) ht

/-- CONFIGURE LINE is accepted in IDLE alone (01 R3). -/
theorem configureLineRule_idle (p : List Byte) (s : State) :
    (configureLineRule p s).1 = s ∨ s.mode.mode = .idle := by
  simp only [configureLineRule, refuse]
  split
  · exact .inl rfl
  next hs =>
  split
  · exact .inl rfl
  split
  · exact .inl rfl
  next ht => exact .inr (s.idle_of_not hs ht)

theorem configureLineRule_gradeLegal (hst : s.settingsLegal) (h : s.gradeLegal) (p : List Byte) :
    (configureLineRule p s).1.gradeLegal := by
  have hlegal := (configureLineRule_settingsLegal p s hst).1
  rcases configureLineRule_cases p s with e | ⟨-, e⟩
  · rw [e]
    exact h
  · rcases configureLineRule_idle p s with e' | hidle
    · rw [e']
      exact h
    · rw [e] at hlegal ⊢
      rw [(s.installSettings_frame _).2.2.2.1] at hlegal
      exact State.installSettings_gradeLegal hlegal hidle h

/-- WRITE RECIPE writes in IDLE, or a recipe that no enabled lane has (01 R12 steps 1 and 3). -/
theorem writeRecipeRule_writes (p : List Byte) (s : State) :
    (writeRecipeRule p s).1 = s ∨ ∃ n, (writeRecipeRule p s).1 = s.writeRecipe n (recipeOf (p.drop 1)) ∧
      (s.mode.mode = .idle ∨ s.settings.assignedToEnabled n = false) := by
  simp only [writeRecipeRule, refuse, refuseField]
  split
  · exact .inl rfl
  next n _ =>
  split
  · exact .inl rfl
  next hs =>
  split
  · exact .inl rfl
  split
  · exact .inl rfl
  next huse =>
  iterate 3
    split
    · exact .inl rfl
  refine .inr ⟨n, rfl, ?_⟩
  by_cases ht : s.tracking = true
  · refine .inr (Bool.eq_false_iff.mpr fun ha => huse ?_)
    simp [ht, State.recipeInUse, ha]
  · exact .inl (s.idle_of_not hs ht)

theorem writeRecipeRule_gradeLegal (hst : s.settingsLegal) (h : s.gradeLegal) (p : List Byte) :
    (writeRecipeRule p s).1.gradeLegal := by
  have hlegal := (writeRecipeRule_settingsLegal p s hst).1
  rcases writeRecipeRule_writes p s with e | ⟨n, e, hm⟩ <;> rw [e] at hlegal ⊢
  · exact h
  · rw [(s.writeRecipe_frame n _).1] at hlegal
    exact State.writeRecipe_gradeLegal hlegal hm h

theorem assignRecipeRule_gradeLegal (hst : s.settingsLegal) (h : s.gradeLegal) (p : List Byte) :
    (assignRecipeRule p s).1.gradeLegal := by
  unfold assignRecipeRule
  split
  · iterate 4
      split
      · exact h
    exact State.assign_gradeLegal hst.1 h _ _
  all_goals exact h

/-- A disposition rule is no source of the common set, and limits no count. -/
theorem writeRuleRule_gradeLegal (h : s.gradeLegal) (p : List Byte) : (writeRuleRule p s).1.gradeLegal := by
  unfold writeRuleRule
  repeat' split
  all_goals exact h

/-- START goes from IDLE to STARTING, at full speed in both (09 R155). -/
theorem startIdle_gradeLegal (hm : s.mode.mode = .idle) (h : s.gradeLegal) : (startIdle s).1.gradeLegal := by
  unfold startIdle
  repeat' split
  case h_2.isFalse =>
    exact State.gradeLegal_iff.mpr fun hp => ⟨h.legal hp, fun _ => h.fullSpeed hp (.inl hm)⟩
  all_goals exact h

end Rules

/-- The commands that leave the selector, the mode and the phase as they are, and of the settings at most what the
selector does not read. -/
def sparesGrades (i : Instr) : Bool :=
  match i with
  | .configureLine _ | .writeRecipe _ | .assignRecipe _ | .recallSettings _ | .advertiseGrades _ | .restoreGrade _
  | .start _ | .stop _ _ | .resume _ | .softReset _ _ | .indexEvent _ | .warnEdge _ _ | .closeTimeout | .openTimeout
  | .samplingTick _ _ | .predictedDeadline | .restoreIdleSignal | .primeEnd | .powerOn | .powerLoss | .pinReset
  | .resetRelease | .settingsLoad _ _ => false
  | _ => true

theorem exec_gradeLegal_of_spares {i : Instr} {s t : State} (hi : sparesGrades i = true) (hs : s.gradeLegal)
    (h : exec i s = .next t) : t.gradeLegal := by
  have keep := @serve_preserves State.gradeLegal fun _ _ hu => hu
  cases i with
  | configureLine | writeRecipe | assignRecipe | recallSettings | advertiseGrades | restoreGrade | start | stop | resume
  | softReset | indexEvent | warnEdge | closeTimeout | openTimeout | samplingTick | predictedDeadline
  | restoreIdleSignal | primeEnd | powerOn | powerLoss | pinReset | resetRelease | settingsLoad => cases hi
  | identify | status | clearFlags | setNoticeMask | fetchNotice | readLine | readRecipe | readRule
  | setWindow | nextChunk | abort | setReturnSize | readCounts | clearCounts | storeSettings =>
    dsimp only [exec, execIdentify, execStatus, execClearFlags, execSetNoticeMask, execFetchNotice, execReadLine,
      execReadRecipe, execReadRule, execSetWindow, execNextChunk, execAbort, execSetReturnSize,
      execReadCounts, execClearCounts, execStoreSettings] at h
    refine keep (fun u hu => ?_) hs h
    repeat' split
    all_goals exact hu
  | writeRule p => exact keep (fun u hu => writeRuleRule_gradeLegal hu p) hs h
  | latchCounts dest p =>
    refine serveTo_preserves (P := State.gradeLegal) (fun _ _ hu => hu) (fun u hu => ?_) hs h
    repeat' split
    all_goals exact hu
  | reportFill p => exact takeTrackRequest_gradeLegal (r := .reportFill p) hs h
  | reportPlace p => exact takeTrackRequest_gradeLegal (r := .reportPlace p) hs h
  | reportVision p => exact takeTrackRequest_gradeLegal (r := .reportVision p) hs h
  | lookup p => exact takeTrackRequest_gradeLegal (r := .lookup p) hs h
  | markCard p => exact takeTrackRequest_gradeLegal (r := .markCard p) hs h
  | markWindow p => exact takeTrackRequest_gradeLegal (r := .markWindow p) hs h
  | readWindow p => exact takeTrackRequest_gradeLegal (r := .readWindow p) hs h
  | closedConfirmation after sw | openConfirmation after sw =>
    cases h
    exact State.switchesShow_gradeLegal (s := s.elapse after) hs sw
  | settleExpiry =>
    cases h
    dsimp only
    split
    · split
      · split
        · exact State.beginStroke_gradeLegal (by exact hs)
        · exact hs
      · exact hs
    · exact hs
  | unknownKind | frameCrcDiscard | foreignFrame | broadcastIgnored | frameOverrunDiscard | lineIdleArmed
  | frameGapTimeout | linkByteReceived | replyAbandoned | replySent | replyBegin | flapDue | flapPulseEnd
  | storeComplete | stall =>
    cases h
    repeat' split
    all_goals exact hs

/-- Every command keeps the grades legal, where the settings are and a stroke is in flight in RUN alone. -/
theorem exec_gradeLegal {i : Instr} {s t : State} (hset : s.settingsLegal)
    (hrun : s.press.state.inStroke = true → s.mode.mode = .run) (hs : s.gradeLegal) (h : exec i s = .next t) :
    t.gradeLegal := by
  by_cases hi : sparesGrades i = true
  · exact exec_gradeLegal_of_spares hi hs h
  have hst : s.settings.legal := hset.1
  have ready : s.outcomeReady := ⟨hst, hrun, hs⟩
  have keep := @serve_keeps State.gradeLegal fun _ _ hu => hu
  have keepTo := @serveTo_keeps State.gradeLegal fun _ _ hu => hu
  cases i with
  | configureLine p => exact keep hs (configureLineRule_gradeLegal (s := s.frameTaken) hset hs p) h
  | writeRecipe p => exact keep hs (writeRecipeRule_gradeLegal (s := s.frameTaken) hset hs p) h
  | assignRecipe p => exact keep hs (assignRecipeRule_gradeLegal (s := s.frameTaken) hset hs p) h
  | recallSettings p =>
    refine keep hs ?_ (show execRecallSettings p s = .next t from h)
    split
    · exact hs
    next hstarting =>
    split
    · exact hs
    split
    · exact hs
    next htracking =>
    split
    · exact hs
    · next st hstored =>
      exact State.installSettings_gradeLegal (hset.2 st hstored) (s.frameTaken.idle_of_not hstarting htracking) hs
  | advertiseGrades p =>
    refine keep hs ?_ (show execAdvertiseGrades p s = .next t from h)
    iterate 2
      split
      · exact hs
    exact State.advertise_gradeLegal (s := s.frameTaken) hst hs _
  | restoreGrade p =>
    refine keep hs ?_ (show execRestoreGrade p s = .next t from h)
    split
    · exact hs
    · exact State.restore_gradeLegal (s := s.frameTaken) hst (fun hp => (hs.legal hp).common_eq) .request
  | start p =>
    refine keep hs ?_ (show execStart p s = .next t from h)
    split
    next hm => exact startIdle_gradeLegal hm hs
    all_goals exact hs
  | stop dest p =>
    have ready' : s.frameTaken.outcomeReady := ⟨hst, hrun, hs⟩
    refine keepTo hs ?_ (show execStop dest p s = .next t from h)
    split
    · exact hs
    · exact State.stopPrime_gradeLegal (s := s.frameTaken) hst hs
    · exact State.stopLine_gradeLegal ready'
    · exact State.stopLine_gradeLegal ready'
  | resume p =>
    refine keep hs ?_ (show execResume p s = .next t from h)
    split
    case h_4 =>
      split
      · exact State.gradeLegal_of_tracking (.inl rfl) hs.legal
      · exact hs
    all_goals exact hs
  | softReset dest p =>
    refine keepTo hs ?_ (show execSoftReset dest p s = .next t from h)
    iterate 2
      split
      · exact hs
    exact State.softReset_gradeLegal (s := s.frameTaken) hst
  | indexEvent edge => exact execIndexEvent_gradeLegal ready h
  | warnEdge after level =>
    cases h
    exact State.outcomeReady.warnShows (s := s.elapse after) ⟨hst, hrun, hs⟩ level
  | closeTimeout =>
    cases h
    split
    · split
      · next d _ hc =>
        have hclosing : s.press.state = .closing := of_decide_eq_true (Bool.and_eq_true_iff.mp hc).2
        exact State.outcomeReady.closeTimedOut (s := s.reach d) ⟨hst, hrun, hs⟩ hclosing
      · exact hs
    · exact hs
  | openTimeout =>
    cases h
    dsimp only
    split
    · split
      · exact State.haltRequest_gradeLegal (by exact hst) (by exact hs) _
      · exact hs
    · exact hs
  | samplingTick codes px =>
    cases h
    split
    · have ready' : (s.reach s.zones.nextTick).outcomeReady := ⟨hst, hrun, hs⟩
      exact (ready'.sampleZones codes px).strokeTick codes px
    · exact hs
  | predictedDeadline =>
    cases h
    split
    · split
      · next d _ _ => exact State.outcomeReady.terminateAny (s := s.reach d) ⟨hst, hrun, hs⟩ .predicted
      · exact hs
    · exact hs
  | restoreIdleSignal =>
    cases h
    split
    · split
      · exact State.giveRestoreIdle_gradeLegal (s := s.reach _) hst hs
      · exact hs
    · exact hs
  | primeEnd =>
    cases h
    split
    · split
      · next d _ hc =>
        have hstarting : s.mode.mode = .starting := State.starting_iff.mp (Bool.and_eq_true_iff.mp hc).2
        exact State.judgePrime_gradeLegal (s := s.reach d) hstarting hs
      · exact hs
    · exact hs
  | powerOn | powerLoss =>
    cases h
    exact State.gradeLegal_of_not_running (by simp [State.losePower])
  | pinReset =>
    cases h
    split
    · exact hs
    · exact State.gradeLegal_of_not_running (by simp)
  | resetRelease =>
    cases h
    split
    · exact State.gradeLegal_of_not_running (by simp)
    · exact hs
  | settingsLoad address rate =>
    cases h
    split
    · exact State.finishLoad_gradeLegal hset _ address rate
    all_goals exact hs
  | _ => exact absurd rfl hi

end Sys2Proof.Machine

namespace Sys2Proof.Proofs

open Sys2Proof.Machine

/-- Settles O55: a step runs a command on the queue's rest, or moves the clock alone. -/
theorem gradeStaysLegal : Obligations.GradeStaysLegal := by
  rintro s t hset ⟨-, -, hrun, -⟩ hs h
  unfold step at h
  split at h
  · next i rest _ => exact exec_gradeLegal (s := s.setPending rest) hset hrun hs h
  · cases h
    exact hs

end Sys2Proof.Proofs
end

section
/-! # The counts of the Discharge Unit, lane by lane (08 R143, R148)

What a discharged slot, an entry and a purge do to one lane's counts, and how many records a lane holds after a change
of the track. -/

namespace Sys2Proof.Quad

variable {α : Type}

theorem lane_setLane (q : Quad α) (l l' : Lane) (x : α) :
    (q.setLane l x).lane l' = if l' = l then x else q.lane l' := by
  cases l <;> cases l' <;> rfl

theorem setLane_lane (q : Quad α) (l : Lane) : q.setLane l (q.lane l) = q := by cases l <;> rfl

theorem lane_ofLanes (f : Lane → α) (l : Lane) : (ofLanes f).lane l = f l := by cases l <;> rfl

theorem lane_const (x : α) (l : Lane) : (const x).lane l = x := by cases l <;> rfl

end Sys2Proof.Quad

namespace Sys2Proof.Machine

/-! ## One lane's counts -/

/-- Lane by lane through the four lanes, each lane's counts are changed once. -/
theorem lane_foldl_all {f : Lane → LaneCounts → LaneCounts} {g : CounterBank → Lane → CounterBank}
    (h : ∀ b l, (g b l).lanes = b.lanes.setLane l (f l (b.lanes.lane l))) (b : CounterBank) (l : Lane) :
    (Lane.all.foldl g b).lanes.lane l = f l (b.lanes.lane l) := by
  simp only [Lane.all, List.foldl_cons, List.foldl_nil, h, Quad.lane_setLane]
  cases l <;> rfl

/-- A lane's counts after one of its slots is discharged (08 R143). -/
def LaneCounts.takeSlot (k : LaneCounts) (st : Settings) (l : Lane) (x : Slot) : LaneCounts :=
  match x with
  | .record c => k.addCard (cardFate st.rules.toList l c)
  | .unknown => k.addUnknown st.line.unknownPolicy
  | .none => k

theorem foldl_incMark_frame (ks : List MarkKind) (b : CounterBank) :
    (ks.foldl CounterBank.incMark b).lanes = b.lanes ∧ (ks.foldl CounterBank.incMark b).strokes = b.strokes ∧
    (ks.foldl CounterBank.incMark b).failing = b.failing ∧
    (ks.foldl CounterBank.incMark b).downgrades = b.downgrades := by
  induction ks generalizing b with
  | nil => exact ⟨rfl, rfl, rfl, rfl⟩
  | cons k ks ih => exact ih _

theorem countSlot_lanes (st : Settings) (l : Lane) (x : Slot) (b : CounterBank) :
    (countSlot st l x b).lanes = b.lanes.setLane l ((b.lanes.lane l).takeSlot st l x) := by
  cases x with
  | record c => exact (foldl_incMark_frame _ _).1
  | unknown => rfl
  | none => exact (b.lanes.setLane_lane l).symm

/-- A record that enters a lane is counted (02 R37). -/
theorem countEntered_lane (r : Row) (b : CounterBank) (l : Lane) :
    (countEntered r b).lanes.lane l =
      if (r.lane l).isRecord then { b.lanes.lane l with entered := satInc (b.lanes.lane l).entered }
      else b.lanes.lane l := by
  refine lane_foldl_all (f := fun l k => if (r.lane l).isRecord then { k with entered := satInc k.entered } else k)
    (fun b l => ?_) b l
  split
  · rfl
  · exact (b.lanes.setLane_lane l).symm

/-- The purge counts the records that a lane holds (02 R44). -/
theorem countPurged_lane (rows : List Row) (b : CounterBank) (l : Lane) :
    (countPurged rows b).lanes.lane l =
      { b.lanes.lane l with purged := satAdd (b.lanes.lane l).purged (liveCount rows l) } :=
  lane_foldl_all (f := fun l k => { k with purged := satAdd k.purged (liveCount rows l) }) (fun _ _ => rfl) b l

/-- Cleared counts are 0 but for the entered count, which is the records that the lane holds (08 R151). -/
theorem clearedBank_lane (rows : List Row) (l : Lane) :
    (clearedBank rows).lanes.lane l = { zeroLaneCounts with entered := satAdd 0#32 (liveCount rows l) } :=
  Quad.lane_ofLanes _ l

/-! ## The discharged row -/

theorem State.onBank_bank (s : State) (f : CounterBank → CounterBank) :
    (s.onBank f).discharge.bank = f s.discharge.bank := rfl

theorem DischargeUnit.setGate_bank (d : DischargeUnit) (o : GateOutput) (f : Flap) : (d.setGate o f).bank = d.bank := by
  cases o <;> rfl

theorem State.giveAction_bank (s : State) (o : GateOutput) : (s.giveAction o).discharge.bank = s.discharge.bank :=
  s.discharge.setGate_bank o _

theorem State.dischargeSlot_bank (s : State) (l : Lane) (x : Slot) :
    (s.dischargeSlot l x).discharge.bank = countSlot s.settings l x s.discharge.bank := by
  unfold dischargeSlot
  dsimp only
  split
  · exact giveAction_bank _ _
  · rfl

/-- The bank after the four slots of a row are discharged, lane A first (08 R137). -/
theorem State.dischargeRow_bank (s : State) (r : Row) :
    (s.dischargeRow r).discharge.bank =
      Lane.all.foldl (fun b l => countSlot s.settings l (r.lane l) b) s.discharge.bank := by
  have slots : (Lane.all.foldl (fun t l => t.dischargeSlot l (r.lane l)) s).discharge.bank =
      Lane.all.foldl (fun b l => countSlot s.settings l (r.lane l) b) s.discharge.bank := by
    simp only [Lane.all, List.foldl_cons, List.foldl_nil, dischargeSlot_bank, dischargeSlot_frame]
  unfold dischargeRow
  dsimp only
  split
  · exact (giveAction_bank _ _).trans slots
  · exact slots

theorem State.dischargeRow_lane (s : State) (r : Row) (l : Lane) :
    (s.dischargeRow r).discharge.bank.lanes.lane l =
      (s.discharge.bank.lanes.lane l).takeSlot s.settings l (r.lane l) := by
  rw [dischargeRow_bank]
  exact lane_foldl_all (f := fun l k => k.takeSlot s.settings l (r.lane l))
    (fun b l => countSlot_lanes s.settings l (r.lane l) b) _ l

/-! ## The two relations of a lane (08 R148) -/

namespace LaneCounts.balanced

variable {k : LaneCounts} {live : Nat}

theorem takeSlot {x : Slot} (h : k.balanced (live + if x.isRecord then 1 else 0)) (st : Settings) (l : Lane) :
    (k.takeSlot st l x).balanced live := by
  have hd := k.discharged.isLt
  have hp := k.passed.isLt
  have hr := k.rejected.isLt
  have hs := k.sampled.isLt
  cases x with
  | record c =>
    simp only [Slot.isRecord, Slot.card, Option.isSome_some, if_true] at h
    simp only [LaneCounts.takeSlot]
    cases cardFate st.rules.toList l c <;>
      simp only [addCard, balanced, saturated, satInc, satAdd_toNat, countMax] at h ⊢ <;> omega
  | unknown =>
    simp only [LaneCounts.takeSlot]
    cases st.line.unknownPolicy <;> exact h
  | none => exact h

theorem enter (h : k.balanced live) : LaneCounts.balanced { k with entered := satInc k.entered } (live + 1) := by
  have he := k.entered.isLt
  simp only [balanced, saturated, satInc, satAdd_toNat, countMax] at h ⊢
  omega

theorem purge (h : k.balanced live) : LaneCounts.balanced { k with purged := satAdd k.purged live } 0 := by
  have hp := k.purged.isLt
  simp only [balanced, saturated, satAdd_toNat, countMax] at h ⊢
  omega

theorem zero : zeroLaneCounts.balanced 0 := by simp [balanced, zeroLaneCounts]

theorem cleared (live : Nat) :
    LaneCounts.balanced { zeroLaneCounts with entered := satAdd 0#32 live } live := by
  simp only [balanced, saturated, satAdd_toNat, countMax, zeroLaneCounts, BitVec.toNat_ofNat]
  exact ⟨by omega, by simp⟩

end LaneCounts.balanced

/-! ## The records a lane holds -/

section Live

variable {rows : List Row} {l : Lane}

theorem liveCount_cons (r : Row) (rows : List Row) (l : Lane) :
    liveCount (r :: rows) l = liveCount rows l + if (r.lane l).isRecord then 1 else 0 := List.countP_cons

theorem rowAt_eq_getElem {q : Nat} (h : q < rows.length) : rowAt rows q = rows[q] := by
  rw [rowAt, List.getD_eq_getElem?_getD, List.getElem?_eq_getElem h, Option.getD_some]

/-- The records before the last position, and the one at it. -/
theorem liveCount_eq_take_add {n : Nat} (h : rows.length = n + 1) :
    liveCount rows l = liveCount (rows.take n) l + if (slotAt rows n l).isRecord then 1 else 0 := by
  have parts : rows.take n ++ [rows[n]] = rows := by
    rw [← List.take_succ_eq_append_getElem (by omega), List.take_of_length_le (by omega)]
  have last : slotAt rows n l = (rows[n]).lane l := by
    rw [slotAt, rowAt_eq_getElem]
  have counted : liveCount (rows.take n ++ [rows[n]]) l =
      liveCount (rows.take n) l + if ((rows[n]).lane l).isRecord then 1 else 0 := by
    simp only [liveCount, List.countP_append, List.countP_singleton]
  rwa [parts, ← last] at counted

theorem liveCount_eq_zero (h : ∀ r ∈ rows, ∀ l, (r.lane l).isRecord = false) : liveCount rows l = 0 :=
  List.countP_eq_zero.mpr fun r hr => by simp [h r hr l]

theorem liveCount_of_noRecords (h : noRecords rows = true) (l : Lane) : liveCount rows l = 0 := by
  refine liveCount_eq_zero fun r hr l => ?_
  have hl : l ∈ Lane.all := by cases l <;> decide
  simpa using List.all_eq_true.mp (List.all_eq_true.mp h r hr) l hl

theorem liveCount_of_unknown (h : ∀ r ∈ rows, r = unknownRow) (l : Lane) : liveCount rows l = 0 :=
  liveCount_eq_zero fun r hr l => by
    rw [h r hr]
    cases l <;> rfl

theorem liveCount_unknownTrack (pGate : Nat) (l : Lane) : liveCount (unknownTrack pGate) l = 0 :=
  liveCount_of_unknown (fun _ hr => List.eq_of_mem_replicate hr) l

theorem liveCount_emptied (rows : List Row) (l : Lane) : liveCount (rows.map fun _ => unknownRow) l = 0 := by
  refine liveCount_of_unknown (fun r hr => ?_) l
  obtain ⟨-, -, rfl⟩ := List.mem_map.mp hr
  rfl

theorem Slot.eq_record_of_card {x : Slot} {c : CardRecord} (h : x.card = some c) : x = .record c := by
  cases x <;> cases h
  rfl

/-- A record put in the place of a record leaves the number of records of every lane. -/
theorem liveCount_putSlot {q : Nat} {c : CardRecord} (h : slotAt rows q l = .record c) (c' : CardRecord) (l' : Lane) :
    liveCount (putSlot rows q l (.record c')) l' = liveCount rows l' := by
  have hq : q < rows.length := by
    refine Nat.lt_of_not_le fun beyond => ?_
    rw [slotAt, rowAt, List.getD_eq_getElem?_getD, List.getElem?_eq_none beyond] at h
    cases l <;> cases h
  have hrow : rowAt rows q = rows[q] := rowAt_eq_getElem hq
  have same : (((rowAt rows q).setLane l (.record c')).lane l').isRecord = ((rows[q]).lane l').isRecord := by
    rw [Quad.lane_setLane, ← hrow]
    split
    · next e => rw [e, show (rowAt rows q).lane l = .record c from h]; rfl
    · rfl
  rw [liveCount, putSlot, List.countP_set hq, same]
  have counted : (if ((rows[q]).lane l').isRecord = true then 1 else 0) ≤ liveCount rows l' := by
    split
    · next e => exact List.countP_pos_iff.mpr ⟨_, List.getElem_mem hq, e⟩
    · exact Nat.zero_le _
  exact Nat.sub_add_cancel counted

end Live

end Sys2Proof.Machine
end

section
/-! # The counts stay balanced (08 R148)

Most of the part leaves the lane counts alone, and a record only where a record stands (`State.sameCounts`). The
advance, the purge and the clearing of the counts keep the two relations; the track is rebuilt only where it holds no
record. -/

namespace Sys2Proof.Machine

/-! ## What the relations read -/

/-- `t` has the lane counts of `s` and as many records in each lane: all that the two relations read. -/
def State.sameCounts (s t : State) : Prop :=
  t.discharge.bank.lanes = s.discharge.bank.lanes ∧ ∀ l, liveCount t.track.rows l = liveCount s.track.rows l

namespace State.sameCounts

variable {s t u : State}

theorem refl (s : State) : s.sameCounts s := ⟨rfl, fun _ => rfl⟩

theorem trans (h : s.sameCounts t) (h' : t.sameCounts u) : s.sameCounts u :=
  ⟨h'.1.trans h.1, fun l => (h'.2 l).trans (h.2 l)⟩

theorem of_eq (hb : t.discharge.bank.lanes = s.discharge.bank.lanes) (ht : t.track.rows = s.track.rows) :
    s.sameCounts t := ⟨hb, fun l => by rw [ht]⟩

theorem foldl {α : Type} {f : State → α → State} (h : ∀ (t : State) x, t.sameCounts (f t x)) (xs : List α)
    (s : State) : s.sameCounts (xs.foldl f s) :=
  List.foldlRecOn xs f (refl s) fun t ht x _ => ht.trans (h t x)

theorem balanced (h : s.sameCounts t) (hs : s.countsBalanced) : t.countsBalanced := fun l => by
  rw [h.1, h.2]
  exact hs l

end State.sameCounts

theorem DischargeUnit.dropActions_bank (d : DischargeUnit) : d.dropActions.bank = d.bank := rfl

namespace State

/-! ## A record written where it stands -/

theorem putCard_sameCounts {s : State} {f : Found} (h : slotAt s.track.rows f.position f.lane = .record f.card)
    (c : CardRecord) : s.sameCounts (s.putCard f c) := ⟨rfl, fun l => liveCount_putSlot h c l⟩

theorem putCard_findCard_sameCounts {s : State} {n : Serial} {f : Found} (h : s.findCard n = some f)
    (c : CardRecord) : s.sameCounts (s.putCard f c) := putCard_sameCounts (findCard_some h).2.2 c

theorem markAt_sameCounts (s : State) (q : Nat) (l : Lane) (k : MarkKind) (lacks : CardRecord → Bool) (d : Bool) :
    s.sameCounts (s.markAt q l k lacks d) := by
  unfold markAt
  split
  · next c hc =>
    have put (c' : CardRecord) : s.sameCounts (s.putCard ⟨q, l, c⟩ c') :=
      putCard_sameCounts (Slot.eq_record_of_card hc) c'
    split
    · dsimp only
      split <;> exact put _
    · exact .refl s
  · exact .refl s

theorem deadlinesAt_sameCounts (s : State) (q : Nat) (l : Lane) : s.sameCounts (s.deadlinesAt q l) := by
  have mark (b : Prop) [Decidable b] (t : State) (k : MarkKind) (lacks : CardRecord → Bool) :
      t.sameCounts (if b then t.markAt q l k lacks true else t) := by
    split
    · exact t.markAt_sameCounts q l k lacks true
    · exact .refl t
  exact ((mark _ _ _ _).trans (mark _ _ _ _)).trans (mark _ _ _ _)

theorem missingMarks_sameCounts (s : State) : s.sameCounts s.missingMarks :=
  .foldl (fun t q => .foldl (fun u l => u.deadlinesAt_sameCounts q l) Lane.all t) _ s

theorem notSealedMarks_sameCounts (s : State) : s.sameCounts s.notSealedMarks :=
  .foldl (fun t l => t.markAt_sameCounts _ l _ _ _) Lane.all s

theorem writePressing_sameCounts (s : State) (n : Serial) : s.sameCounts (s.writePressing n) := by
  unfold writePressing
  split
  · next hf =>
    split
    · exact putCard_findCard_sameCounts hf _
    · exact .refl s
  · exact .refl s

theorem writeFinal_sameCounts (s : State) (n : Serial) (x : SealPart) (ks : List MarkKind) :
    s.sameCounts (s.writeFinal n x ks).1 := by
  unfold writeFinal
  split
  · next hf =>
    split
    · exact putCard_findCard_sameCounts hf _
    · exact .refl s
  · exact .refl s

/-! ## The selector and the stroke -/

theorem takeOutcome_sameCounts (s : State) (o : StrokeOutcome) : s.sameCounts (s.takeOutcome o) := by
  refine .of_eq ?_ (by simp only [takeOutcome_frame])
  cases o with
  | failing =>
    simp only [takeOutcome, failingOutcome]
    split
    · split
      · simp only [downgrade, handGrade_frame]
        rfl
      · rfl
    · rfl
  | clean =>
    simp only [takeOutcome, cleanOutcome]
    split
    · split
      · simp only [recoverGrade, handGrade_frame]
        rfl
      · rfl
    · rfl
  | neither => rfl

theorem handOutcome_sameCounts (s : State) (o : StrokeOutcome) : s.sameCounts (s.handOutcome o) := by
  unfold handOutcome
  split <;> exact takeOutcome_sameCounts _ _

theorem finishLanes_sameCounts (x : StrokeContext) (c : EndCause) (ks : List StrokeLane)
    (acc : State × Quad (Option StrokeReport)) : acc.1.sameCounts (ks.foldl (finishLane x c) acc).1 :=
  List.foldlRecOn (motive := fun a => acc.1.sameCounts a.1) ks (finishLane x c) (.refl _) fun a h _ _ =>
    h.trans (a.1.writeFinal_sameCounts _ _ _)

theorem finishStroke_sameCounts (s : State) (x : StrokeContext) (c : EndCause) :
    s.sameCounts (s.finishStroke x c) :=
  (finishLanes_sameCounts x c x.lanes (s, Quad.const none)).trans (handOutcome_sameCounts _ _)

theorem releasePress_sameCounts (s : State) : s.sameCounts s.releasePress :=
  .of_eq (by simp only [releasePress_frame]) (by simp only [releasePress_frame])

theorem terminate_sameCounts (s : State) (c : EndCause) : s.sameCounts (s.terminate c) := by
  unfold terminate
  dsimp only
  refine sameCounts.trans (t := s.setPress { s.press with pressClose := false, closeDue := none }) (.refl s) ?_
  split
  · exact (finishStroke_sameCounts _ _ c).trans (releasePress_sameCounts _)
  · exact releasePress_sameCounts _

theorem terminateAny_sameCounts (s : State) (c : EndCause) : s.sameCounts (s.terminateAny c) := by
  unfold terminateAny
  split
  · exact s.terminate_sameCounts c
  · exact .refl s

theorem haltRequest_sameCounts (s : State) (c : HaltCause) : s.sameCounts (s.haltRequest c) := by
  unfold haltRequest
  split
  · exact s.terminateAny_sameCounts .stop
  · exact .refl s

theorem beginStroke_sameCounts (s : State) : s.sameCounts s.beginStroke := by
  have written (t : State) (ns : List Serial) : t.sameCounts (ns.foldl writePressing t) :=
    .foldl writePressing_sameCounts ns t
  unfold beginStroke
  dsimp only
  split <;> exact written _ _

/-! ## The edges, the ticks and the timers -/

theorem judgeEdge_sameCounts (s : State) : s.sameCounts s.judgeEdge := by
  rw [judgeEdge_eq]
  exact .refl s

theorem pressIndex_sameCounts (s : State) : s.sameCounts s.pressIndex := by
  unfold pressIndex
  split
  · split <;> exact .refl s
  · exact haltRequest_sameCounts _ _
  · exact (s.terminate_sameCounts _).trans (haltRequest_sameCounts _ _)
  · exact (s.terminate_sameCounts _).trans (haltRequest_sameCounts _ _)
  · exact haltRequest_sameCounts _ _
  · exact haltRequest_sameCounts _ _

theorem warnShows_sameCounts (s : State) (level : Bool) : s.sameCounts (s.warnShows level) := by
  have pressed (t : State) : t.sameCounts t.warnPress := by
    unfold warnPress
    split
    case h_2 | h_3 => exact t.terminate_sameCounts .warning
    all_goals exact .refl t
  unfold warnShows
  dsimp only
  split
  · split
    · exact pressed _
    · exact .refl s
  · exact .refl s

theorem switchesShow_sameCounts (s : State) (w : Switches) : s.sameCounts (s.switchesShow w) := by
  unfold switchesShow
  dsimp only
  (repeat' split) <;> exact .refl s

theorem sampleZones_sameCounts (s : State) (codes : Quad (BitVec 12)) (px : BitVec 10) :
    s.sameCounts (s.sampleZones codes px) :=
  .foldl (f := State.raise) (fun t _ => .refl t) _ (s.setZones _)

theorem strokeTick_sameCounts (s : State) (codes : Quad (BitVec 12)) (px : BitVec 10) :
    s.sameCounts (s.strokeTick codes px) := by
  unfold strokeTick testSample
  dsimp only
  split
  · split
    · split
      · exact terminate_sameCounts _ _
      · split
        · exact terminate_sameCounts _ _
        · exact .refl s
    · split <;> exact .refl s
  · exact .refl s

theorem closeTimedOut_sameCounts (s : State) : s.sameCounts s.closeTimedOut := by
  have ended := s.terminate_sameCounts .closeTimeout
  unfold closeTimedOut
  dsimp only
  split
  · exact ended.trans (haltRequest_sameCounts _ _)
  · exact ended

theorem judgePrime_sameCounts (s : State) : s.sameCounts s.judgePrime := by
  unfold judgePrime
  (repeat' split) <;> exact .refl s

/-! ## The Grade Selector -/

theorem restore_sameCounts (s : State) (r : RestoreSource) : s.sameCounts (s.restore r) :=
  .of_eq (by simp only [restore_frame]) (by simp only [restore_frame])

theorem recomputeRestoring_sameCounts (s : State) (r : RestoreSource) : s.sameCounts (s.recomputeRestoring r) :=
  .of_eq (by simp only [recomputeRestoring_frame]) (by simp only [recomputeRestoring_frame])

theorem advertise_sameCounts (s : State) (mask : GradeSet) : s.sameCounts (s.advertise mask) := by
  have recomputed := (s.withCapability mask).recomputeRestoring_sameCounts .advertise
  unfold advertise
  dsimp only
  split <;> exact recomputed

theorem writeRecipe_sameCounts (s : State) (n : Fin 16) (r : Recipe) : s.sameCounts (s.writeRecipe n r) :=
  .of_eq (by simp only [writeRecipe_frame]) (by simp only [writeRecipe_frame])

/-! ## The track emptied, or rebuilt where it is empty -/

/-- A purge counts every record it takes (02 R44). -/
theorem purge_countsBalanced {s : State} (h : s.countsBalanced) : s.purge.countsBalanced := fun l => by
  show ((countPurged s.track.rows s.discharge.bank).lanes.lane l).balanced
    (liveCount (s.track.rows.map fun _ => unknownRow) l)
  rw [countPurged_lane, liveCount_emptied]
  exact (h l).purge

theorem countsBalanced_of_emptied {s t : State} (h : s.countsBalanced) (hs : noRecords s.track.rows = true)
    (hb : t.discharge.bank.lanes = s.discharge.bank.lanes) (ht : ∀ l, liveCount t.track.rows l = 0) :
    t.countsBalanced :=
  sameCounts.balanced ⟨hb, fun l => (ht l).trans (liveCount_of_noRecords hs l).symm⟩ h

/-- The track is rebuilt in IDLE, where it holds no record (01 R7). -/
theorem installSettings_countsBalanced {s : State} (h : s.countsBalanced) (hs : noRecords s.track.rows = true)
    (st : Settings) : (s.installSettings st).countsBalanced := by
  refine countsBalanced_of_emptied h hs (by simp only [installSettings_frame]) fun l => ?_
  simp only [installSettings_frame]
  exact liveCount_unknownTrack _ l

theorem stopLine_countsBalanced {s : State} (h : s.countsBalanced) : s.stopLine.countsBalanced :=
  (restore_sameCounts _ _).balanced (purge_countsBalanced ((s.terminateAny_sameCounts .stop).balanced h))

/-- A prime is abandoned in STARTING, where the track holds no record (09 R160). -/
theorem stopPrime_countsBalanced {s : State} (h : s.countsBalanced) (hs : noRecords s.track.rows = true) :
    s.stopPrime.countsBalanced :=
  (restore_sameCounts _ _).balanced (countsBalanced_of_emptied h hs rfl (liveCount_emptied _))

theorem softReset_countsBalanced {s : State} (h : s.countsBalanced) : s.softReset.countsBalanced := by
  have purged : (s.terminateAny .stop).purge.sameCounts s.softReset := by
    unfold softReset
    exact .of_eq (by simp [DischargeUnit.dropActions_bank]) (by simp)
  exact purged.balanced (purge_countsBalanced ((s.terminateAny_sameCounts .stop).balanced h))

theorem assertReset_countsBalanced {s : State} (h : s.countsBalanced) : s.assertReset.countsBalanced := by
  have purged : s.purge.sameCounts s.assertReset := by
    unfold assertReset
    exact .of_eq (by simp [DischargeUnit.dropActions_bank]) (by simp)
  exact purged.balanced (purge_countsBalanced h)

theorem setPhase_countsBalanced {s : State} (h : s.countsBalanced) (x : Phase) : (s.setPhase x).countsBalanced := h

/-- Counts at zero over a track without records. -/
theorem countsBalanced_of_zero {s : State} (hb : s.discharge.bank = zeroBank)
    (ht : ∀ l, liveCount s.track.rows l = 0) : s.countsBalanced := fun l => by
  rw [hb, ht]
  simp only [zeroBank, Quad.lane_const]
  exact .zero

theorem losePower_countsBalanced (s : State) : s.losePower.countsBalanced :=
  countsBalanced_of_zero rfl (liveCount_emptied _)

/-- The counts are cleared to the records that the lanes hold (08 R151). -/
theorem clearedBank_balanced (rows : List Row) (l : Lane) :
    ((clearedBank rows).lanes.lane l).balanced (liveCount rows l) := by
  rw [clearedBank_lane]
  exact .cleared _

/-- The settings load of a pin reset keeps the counts, over a track that the reset has emptied (09 R162, R163). -/
theorem finishLoad_countsBalanced {s : State} (h : s.countsBalanced) (hs : noRecords s.track.rows = true)
    (k : ResetKind) (a : BitVec 5) (r : BitVec 2) : (s.finishLoad k a r).countsBalanced := by
  unfold finishLoad
  cases k <;> dsimp only <;> split
  case powerOn.isTrue | powerOn.isFalse => exact countsBalanced_of_zero rfl (liveCount_unknownTrack _)
  case pin.isTrue | pin.isFalse => exact countsBalanced_of_emptied h hs rfl (liveCount_unknownTrack _)

/-! ## The advance (02 R30 to R38) -/

/-- The state of an advance once its slots have moved: the gate row discharged, the new row at position 0. -/
def moved (s : State) : State :=
  let t := s.dischargeRow (rowAt s.track.rows s.settings.line.pGate)
  let entry := enterRow s.settings s.track.nextSerial
  t.setTrack { t.track with rows := entry.1 :: t.track.rows.take s.settings.line.pGate, nextSerial := entry.2 }

/-- Of the counts and the rows, an advance moves the slots, adds its marks and counts what entered. -/
theorem advance_bank_rows (s : State) :
    s.advance.discharge.bank =
      countEntered (enterRow s.settings s.track.nextSerial).1 s.moved.missingMarks.notSealedMarks.discharge.bank ∧
    s.advance.track.rows = s.moved.missingMarks.notSealedMarks.track.rows := by
  simp only [advance, moved, raise_discharge, raise_track, onBank_bank, onBank_track, setTrack_discharge,
    setTrack_track, and_self]

theorem moved_lane (s : State) (l : Lane) :
    s.moved.discharge.bank.lanes.lane l = (s.discharge.bank.lanes.lane l).takeSlot s.settings l
      (slotAt s.track.rows s.settings.line.pGate l) := s.dischargeRow_lane _ l

theorem moved_rows (s : State) :
    s.moved.track.rows =
      (enterRow s.settings s.track.nextSerial).1 :: s.track.rows.take s.settings.line.pGate := by
  unfold moved
  rw [dischargeRow_eq]
  rfl

/-- An advance counts the slots that leave by their outcomes and the records that enter. -/
theorem advance_countsBalanced {s : State} (hlen : s.track.rows.length = s.settings.line.pGate + 1)
    (h : s.countsBalanced) : s.advance.countsBalanced := by
  intro l
  obtain ⟨hbank, hrows⟩ := s.advance_bank_rows
  obtain ⟨hlanes, hlive⟩ := s.moved.missingMarks_sameCounts.trans (notSealedMarks_sameCounts _)
  have before := h l
  rw [liveCount_eq_take_add hlen] at before
  have left := before.takeSlot s.settings l
  rw [hbank, hrows, countEntered_lane, hlanes, hlive, moved_lane, moved_rows, liveCount_cons]
  split
  · exact left.enter
  · exact left

theorem trackIndex_countsBalanced {s : State} (hlen : s.track.rows.length = s.settings.line.pGate + 1)
    (h : s.countsBalanced) : s.trackIndex.countsBalanced := by
  unfold trackIndex
  split
  · exact advance_countsBalanced hlen h
  · exact h

/-- Steps 1 to 3 of an accepted edge leave the track and the counts, and the Track Unit then advances (06 R105). -/
theorem edgeTaken_countsBalanced {s : State} (hlen : s.track.rows.length = s.settings.line.pGate + 1)
    (h : s.countsBalanced) : s.judgeEdge.restartStall.trackIndex.countsBalanced := by
  rw [judgeEdge_eq]
  exact trackIndex_countsBalanced (by exact hlen) (by exact h)

theorem indexEdge_countsBalanced {s : State} (hlen : s.track.rows.length = s.settings.line.pGate + 1)
    (h : s.countsBalanced) : s.indexEdge.countsBalanced := by
  unfold indexEdge
  split
  · have answered := (pressIndex_sameCounts _).balanced (edgeTaken_countsBalanced hlen h)
    unfold handIndex
    dsimp only
    split <;> exact answered
  · exact h

end State

/-! ## Commands -/

theorem judgeReport_findCard {s : State} {n : Serial} {present : CardRecord → Bool} {station deadline : Nat}
    {f : Found} (h : judgeReport s n present station deadline = .ok f) : s.findCard n = some f := by
  unfold judgeReport at h
  split at h
  · cases h
  · next g hg =>
    repeat' split at h
    all_goals cases h
    exact hg

/-- An accepted report writes the record that it found (03 R49). -/
theorem acceptReport_sameCounts {s : State} {n : Serial} {present : CardRecord → Bool} {station deadline : Nat}
    {f : Found} (h : judgeReport s n present station deadline = .ok f) (c : CardRecord) (mark : Option MarkKind)
    (clamped : Bool) : s.sameCounts (acceptReport s f c mark clamped).1 :=
  State.putCard_findCard_sameCounts (judgeReport_findCard h) _

theorem visitSlot_liveCount (acc : List Row × MarkTally) (x : Nat × Lane) (l : Lane) :
    liveCount (visitSlot acc x).1 l = liveCount acc.1 l := by
  unfold visitSlot
  split
  · next hc => exact liveCount_putSlot (Slot.eq_record_of_card hc) _ l
  · rfl

theorem foldl_visitSlot_liveCount (xs : List (Nat × Lane)) (acc : List Row × MarkTally) (l : Lane) :
    liveCount (xs.foldl visitSlot acc).1 l = liveCount acc.1 l := by
  induction xs generalizing acc with
  | nil => rfl
  | cons x xs ih => exact (ih _).trans (visitSlot_liveCount acc x l)

theorem takeTrackRequest_sameCounts {r : TrackRequest} {s t : State} (h : takeTrackRequest r s = .next t) :
    s.sameCounts t := by
  have keep := @serve_keeps s.sameCounts fun _ _ hu => hu
  cases r with
  | reportFill p | reportPlace p | reportVision p =>
    dsimp only [takeTrackRequest, execReportFill, execReportPlace, execReportVision] at h
    refine keep (.refl s) ?_ h
    split
    · exact .refl s
    · split
      · exact .refl s
      · next hf => exact acceptReport_sameCounts hf _ _ _
  | lookup p =>
    refine keep (.refl s) ?_ (show execLookup p s = .next t from h)
    repeat' split
    all_goals exact .refl s
  | markCard p =>
    refine keep (.refl s) ?_ (show execMarkCard p s = .next t from h)
    split
    · exact .refl s
    · split
      · exact .refl s
      · next hf => exact State.putCard_findCard_sameCounts (s := s.frameTaken) hf _
  | markWindow p =>
    refine keep (.refl s) ?_ (show execMarkWindow p s = .next t from h)
    split
    · exact .refl s
    · exact ⟨rfl, foldl_visitSlot_liveCount _ _⟩
  | readWindow p =>
    refine keep (.refl s) ?_ (show execReadWindow p s = .next t from h)
    split <;> exact .refl s

theorem execIndexEvent_countsBalanced {edge : IndexEdge} {s t : State}
    (hlen : s.track.rows.length = s.settings.line.pGate + 1) (hs : s.countsBalanced)
    (h : execIndexEvent edge s = .next t) : t.countsBalanced := by
  have hs' : (s.elapse edge.after).countsBalanced := hs
  unfold execIndexEvent at h
  dsimp only at h
  split at h
  · cases h
    exact State.indexEdge_countsBalanced hlen hs'
  · next r _ =>
    split at h
    · have advanced : (s.elapse edge.after).judgeEdge.restartStall.trackIndex.countsBalanced :=
        State.edgeTaken_countsBalanced (by exact hlen) hs'
      obtain ⟨u, hu, -⟩ := takeTrackRequest_frame r (s.elapse edge.after).judgeEdge.restartStall.trackIndex
      rw [hu] at h
      cases h
      exact ((takeTrackRequest_sameCounts hu).trans u.pressIndex_sameCounts).balanced advanced
    · exact (takeTrackRequest_sameCounts h).balanced hs'

/-- The commands that may change a lane count or the number of records in a lane. -/
def movesCounts (i : Instr) : Bool :=
  match i with
  | .configureLine _ | .recallSettings _ | .stop _ _ | .softReset _ _ | .clearCounts _ | .indexEvent _
  | .powerOn | .powerLoss | .pinReset | .settingsLoad _ _ => true
  | _ => false

theorem assignRecipeRule_sameCounts (p : List Byte) (s : State) : s.sameCounts (assignRecipeRule p s).1 := by
  unfold assignRecipeRule
  split
  · iterate 4
      split
      · exact .refl s
    exact State.recomputeRestoring_sameCounts _ .assign
  all_goals exact .refl s

theorem writeRecipeRule_sameCounts (p : List Byte) (s : State) : s.sameCounts (writeRecipeRule p s).1 := by
  rcases writeRecipeRule_cases p s with e | ⟨-, n, e⟩ <;> rw [e]
  · exact .refl s
  · exact s.writeRecipe_sameCounts n _

theorem writeRuleRule_sameCounts (p : List Byte) (s : State) : s.sameCounts (writeRuleRule p s).1 := by
  unfold writeRuleRule
  repeat' split
  all_goals exact .refl s

theorem State.setGate_sameCounts (s : State) (o : GateOutput) (now : Nat) (f : Flap) :
    s.sameCounts ((s.setNow now).setDischarge (s.discharge.setGate o f)) :=
  .of_eq (by simp [DischargeUnit.setGate_bank]) rfl

/-- Every other command leaves the counts and the records of every lane. -/
theorem exec_sameCounts {i : Instr} {s t : State} (hi : movesCounts i = false) (h : exec i s = .next t) :
    s.sameCounts t := by
  have keep := @serve_keeps s.sameCounts fun _ _ hu => hu
  cases i with
  | configureLine | recallSettings | stop | softReset | clearCounts | indexEvent | powerOn | powerLoss | pinReset
  | settingsLoad => cases hi
  | identify | status | clearFlags | setNoticeMask | fetchNotice | readLine | readRecipe | readRule | resume
  | setWindow | nextChunk | abort | setReturnSize | readCounts | storeSettings =>
    dsimp only [exec, execIdentify, execStatus, execClearFlags, execSetNoticeMask, execFetchNotice, execReadLine,
      execReadRecipe, execReadRule, execResume, execSetWindow, execNextChunk, execAbort, execSetReturnSize,
      execReadCounts, execStoreSettings] at h
    refine keep (.refl s) ?_ h
    repeat' split
    all_goals exact .refl s
  | writeRecipe p => exact keep (.refl s) (writeRecipeRule_sameCounts p s.frameTaken) h
  | assignRecipe p => exact keep (.refl s) (assignRecipeRule_sameCounts p s.frameTaken) h
  | writeRule p => exact keep (.refl s) (writeRuleRule_sameCounts p s.frameTaken) h
  | advertiseGrades p =>
    refine keep (.refl s) ?_ (show execAdvertiseGrades p s = .next t from h)
    iterate 2
      split
      · exact .refl s
    exact s.frameTaken.advertise_sameCounts _
  | restoreGrade p =>
    refine keep (.refl s) ?_ (show execRestoreGrade p s = .next t from h)
    split
    · exact .refl s
    · exact s.frameTaken.restore_sameCounts .request
  | start p =>
    refine keep (.refl s) ?_ (show execStart p s = .next t from h)
    unfold startIdle
    repeat' split
    all_goals exact .refl s
  | latchCounts dest p =>
    refine serveTo_keeps (P := s.sameCounts) (fun _ _ hu => hu) (.refl s) ?_ h
    repeat' split
    all_goals exact .refl s
  | reportFill p => exact takeTrackRequest_sameCounts (r := .reportFill p) h
  | reportPlace p => exact takeTrackRequest_sameCounts (r := .reportPlace p) h
  | reportVision p => exact takeTrackRequest_sameCounts (r := .reportVision p) h
  | lookup p => exact takeTrackRequest_sameCounts (r := .lookup p) h
  | markCard p => exact takeTrackRequest_sameCounts (r := .markCard p) h
  | markWindow p => exact takeTrackRequest_sameCounts (r := .markWindow p) h
  | readWindow p => exact takeTrackRequest_sameCounts (r := .readWindow p) h
  | warnEdge after level =>
    cases h
    exact (s.elapse after).warnShows_sameCounts level
  | closedConfirmation after sw | openConfirmation after sw =>
    cases h
    exact (s.elapse after).switchesShow_sameCounts sw
  | settleExpiry =>
    cases h
    dsimp only
    split
    · split
      · split
        · exact State.beginStroke_sameCounts _
        · exact .refl s
      · exact .refl s
    · exact .refl s
  | closeTimeout =>
    cases h
    split
    · split
      · exact State.closeTimedOut_sameCounts _
      · exact .refl s
    · exact .refl s
  | openTimeout =>
    cases h
    dsimp only
    split
    · split
      · exact State.haltRequest_sameCounts _ _
      · exact .refl s
    · exact .refl s
  | samplingTick codes px =>
    cases h
    split
    · exact ((s.reach _).sampleZones_sameCounts codes px).trans (State.strokeTick_sameCounts _ codes px)
    · exact .refl s
  | predictedDeadline =>
    cases h
    split
    · split
      · exact State.terminateAny_sameCounts _ _
      · exact .refl s
    · exact .refl s
  | restoreIdleSignal =>
    cases h
    split
    · split
      · exact State.restore_sameCounts _ .idle
      · exact .refl s
    · exact .refl s
  | primeEnd =>
    cases h
    split
    · split
      · exact State.judgePrime_sameCounts _
      · exact .refl s
    · exact .refl s
  | flapDue o | flapPulseEnd o =>
    cases h
    dsimp only
    split
    · split
      · exact s.setGate_sameCounts o _ _
      · exact .refl s
    · exact .refl s
  | unknownKind | frameCrcDiscard | foreignFrame | broadcastIgnored | frameOverrunDiscard | lineIdleArmed
  | frameGapTimeout | linkByteReceived | replyAbandoned | replySent | replyBegin | storeComplete | stall
  | resetRelease =>
    cases h
    repeat' split
    all_goals exact .refl s

theorem configureLineRule_countsBalanced {s : State} (hs : s.countsBalanced)
    (hidle : s.mode.mode = .idle → noRecords s.track.rows = true) (p : List Byte) :
    (configureLineRule p s).1.countsBalanced := by
  rcases configureLineRule_cases p s with e | ⟨-, e⟩
  · rw [e]
    exact hs
  · rcases configureLineRule_idle p s with e' | hm
    · rw [e']
      exact hs
    · rw [e]
      exact State.installSettings_countsBalanced hs (hidle hm) _

/-- Every command keeps the counts balanced, where the track is whole and is empty in IDLE and STARTING, and the mode
is IDLE outside the running part. -/
theorem exec_countsBalanced {i : Instr} {s t : State} (hlen : s.track.rows.length = s.settings.line.pGate + 1)
    (hempty : s.mode.mode = .idle ∨ s.mode.mode = .starting → noRecords s.track.rows = true)
    (hphase : s.phase ≠ .running → s.mode.mode = .idle) (hs : s.countsBalanced) (h : exec i s = .next t) :
    t.countsBalanced := by
  by_cases hi : movesCounts i = false
  · exact (exec_sameCounts hi h).balanced hs
  have keep := @serve_keeps State.countsBalanced fun _ _ hu => hu
  have keepTo := @serveTo_keeps State.countsBalanced fun _ _ hu => hu
  cases i with
  | configureLine p =>
    exact keep hs (configureLineRule_countsBalanced (s := s.frameTaken) hs (fun hm => hempty (.inl hm)) p) h
  | recallSettings p =>
    refine keep hs ?_ (show execRecallSettings p s = .next t from h)
    split
    · exact hs
    next hstarting =>
    split
    · exact hs
    split
    · exact hs
    next htracking =>
    split
    · exact hs
    · have hm : s.mode.mode = .idle := s.frameTaken.idle_of_not hstarting htracking
      exact State.installSettings_countsBalanced (s := s.frameTaken) hs (hempty (.inl hm)) _
  | stop dest p =>
    refine keepTo hs ?_ (show execStop dest p s = .next t from h)
    split
    · exact hs
    next hm => exact State.stopPrime_countsBalanced (s := s.frameTaken) hs (hempty (.inr hm))
    all_goals exact State.stopLine_countsBalanced (s := s.frameTaken) hs
  | softReset dest p =>
    refine keepTo hs ?_ (show execSoftReset dest p s = .next t from h)
    iterate 2
      split
      · exact hs
    exact State.softReset_countsBalanced (s := s.frameTaken) hs
  | clearCounts p =>
    refine keep hs ?_ (show execClearCounts p s = .next t from h)
    split
    · exact hs
    · exact State.clearedBank_balanced s.track.rows
  | indexEvent edge => exact execIndexEvent_countsBalanced hlen hs h
  | powerOn =>
    cases h
    exact State.setPhase_countsBalanced s.losePower_countsBalanced _
  | powerLoss =>
    cases h
    exact s.losePower_countsBalanced
  | pinReset =>
    cases h
    split
    · exact hs
    · exact State.setPhase_countsBalanced (State.assertReset_countsBalanced hs) _
  | settingsLoad address rate =>
    cases h
    split
    · next k hk =>
      have hm : s.mode.mode = .idle := hphase (by simp [hk])
      exact State.finishLoad_countsBalanced hs (hempty (.inl hm)) k address rate
    all_goals exact hs
  | _ => exact absurd rfl hi

end Sys2Proof.Machine

namespace Sys2Proof.Proofs

open Sys2Proof.Machine

/-- Settles O58: a step runs a command on the queue's rest, or moves the clock alone. -/
theorem countsStayBalanced : Obligations.CountsStayBalanced := by
  rintro s t ⟨-, -, -, hphase⟩ ⟨hlen, -, -, hempty⟩ hs h
  unfold step at h
  split at h
  · next i rest _ => exact exec_countsBalanced (s := s.setPending rest) hlen hempty hphase hs h
  · cases h
    exact hs

end Sys2Proof.Proofs
end

section
/-! # The outcome of a discharged slot (08 R138, R139) -/

namespace Sys2Proof.Machine

/-- All fields of an active rule match a record of a lane (08 R139). -/
def Rule.hits (r : Rule) (l : Lane) (c : CardRecord) : Prop :=
  r.active = true ∧ (∀ k, r.recipe = some k → k = c.recipe) ∧ (∀ k, r.lane = some k → k = l) ∧
  match r.mark with
  | .any => True
  | .none => c.marks = []
  | .holds k => k ∈ c.marks

/-- A field of a rule that is ANY, or the value itself. -/
theorem none_or_some_iff {α : Type} (o : Option α) (x : α) : o = none ∨ o = some x ↔ ∀ k, o = some k → k = x := by
  cases o <;> simp

theorem Rule.matchesCard_iff (r : Rule) (l : Lane) (c : CardRecord) : r.matchesCard l c = true ↔ r.hits l c := by
  simp only [matchesCard, hits, Bool.and_eq_true, decide_eq_true_eq, none_or_some_iff, and_assoc]
  cases hm : r.mark <;> simp [MarkCondition.holdsFor]

section Fate

variable {l : Lane} {c : CardRecord}

theorem cardFate_of_overflow (h : c.overflow = true) (rules : List Rule) : cardFate rules l c = .reject := if_pos h

/-- The lowest-numbered rule that hits gives the outcome. -/
theorem cardFate_of_first (h : c.overflow = false) {rules : Vector Rule 8} {n : Fin 8}
    (hn : (rules[n.val]).hits l c) (hfirst : ∀ m : Fin 8, m < n → ¬(rules[m.val]).hits l c) :
    cardFate rules.toList l c = (rules[n.val]).fate := by
  have found : rules.toList.find? (fun r => r.matchesCard l c) = some rules[n.val] := by
    rw [List.find?_eq_some_iff_getElem]
    refine ⟨(Rule.matchesCard_iff _ l c).mpr hn, n.val, by simp, by simp, fun j hj => ?_⟩
    have missed := hfirst ⟨j, by omega⟩ hj
    rw [← Rule.matchesCard_iff] at missed
    simpa using missed
  rw [cardFate, h, found]
  rfl

/-- Where no rule hits, the marks give the outcome. -/
theorem cardFate_of_none (h : c.overflow = false) {rules : Vector Rule 8}
    (hnone : ∀ n : Fin 8, ¬(rules[n.val]).hits l c) :
    cardFate rules.toList l c = if c.marks = [] then .pass else .reject := by
  have missed : rules.toList.find? (fun r => r.matchesCard l c) = none := by
    rw [List.find?_eq_none]
    intro r hr
    obtain ⟨i, hi, rfl⟩ := List.getElem_of_mem hr
    rw [Rule.matchesCard_iff]
    exact hnone ⟨i, by simpa using hi⟩
  simp only [cardFate, h, missed, List.isEmpty_iff, Bool.false_eq_true, if_false]

end Fate

end Sys2Proof.Machine

namespace Sys2Proof.Proofs

open Sys2Proof.Machine

/-- Settles O46: the search of `cardFate` stops at the first rule that hits. -/
theorem dischargeOutcome : Obligations.DischargeOutcome := by
  intro st l c hits
  refine ⟨fun ho => ?_, fun ho => ⟨fun n hn hfirst => ?_, fun hnone => ?_⟩, fun hp => ?_, fun hp => ?_, rfl⟩
  · exact congrArg some (cardFate_of_overflow ho _)
  · exact congrArg some (cardFate_of_first ho hn hfirst)
  · exact congrArg some (cardFate_of_none ho hnone)
  · simp only [slotFate, hp, UnknownPolicy.fate]
  · simp only [slotFate, hp, UnknownPolicy.fate]

end Sys2Proof.Proofs
end

section
/-! # The discharged row: marks, flaps and the sample output (08 R137, R143 to R146) -/

namespace Sys2Proof.Machine

/-! ## The mark counts (08 R143) -/

theorem markOfCode_code (k : MarkKind) : markOfCode k.code = some k := by cases k <;> rfl

theorem MarkKind.index_val_inj {j k : MarkKind} : j.index.val = k.index.val ↔ j = k := by
  refine ⟨fun h => ?_, fun h => by rw [h]⟩
  have codes := congrArg markOfCode (show j.code = k.code from h)
  rw [markOfCode_code, markOfCode_code] at codes
  exact Option.some.inj codes

theorem CounterBank.incMark_mark (b : CounterBank) (j k : MarkKind) :
    (b.incMark j).marks[k.index.val] = if j = k then satInc b.marks[k.index.val] else b.marks[k.index.val] := by
  simp only [incMark, Vector.getElem_set, MarkKind.index_val_inj]
  split
  · next e => rw [e]
  · rfl

/-- A list of marks adds to the count of a kind as often as it holds it. -/
theorem foldl_incMark_mark (ks : List MarkKind) (b : CounterBank) (k : MarkKind) :
    ((ks.foldl CounterBank.incMark b).marks[k.index.val]).toNat =
      min ((b.marks[k.index.val]).toNat + ks.count k) countMax := by
  induction ks generalizing b with
  | nil =>
    have bound := (b.marks[k.index.val]).isLt
    simp only [List.foldl_nil, List.count_nil, countMax]
    omega
  | cons j ks ih =>
    rw [List.foldl_cons, ih, CounterBank.incMark_mark, List.count_cons]
    by_cases e : j = k
    · simp only [e, if_true, beq_self_eq_true, satInc, satAdd_toNat]
      omega
    · simp only [e, if_false, beq_iff_eq, Nat.add_zero]

/-- How many marks of a kind the record of a slot holds. -/
def Slot.markCount (k : MarkKind) (x : Slot) : Nat :=
  match x with
  | .record c => c.marks.count k
  | .unknown => 0
  | .none => 0

theorem countSlot_mark (st : Settings) (l : Lane) (x : Slot) (b : CounterBank) (k : MarkKind) :
    ((countSlot st l x b).marks[k.index.val]).toNat =
      min ((b.marks[k.index.val]).toNat + x.markCount k) countMax := by
  have bound := (b.marks[k.index.val]).isLt
  cases x with
  | record c => exact foldl_incMark_mark _ _ k
  | unknown | none =>
    simp only [countSlot, CounterBank.onLane, Slot.markCount, countMax]
    omega

theorem State.dischargeRow_mark (s : State) (r : Row) (k : MarkKind) :
    ((s.dischargeRow r).discharge.bank.marks[k.index.val]).toNat =
      min ((s.discharge.bank.marks[k.index.val]).toNat + (Lane.all.map fun l => (r.lane l).markCount k).sum)
        countMax := by
  simp only [dischargeRow_bank, Lane.all, List.foldl_cons, List.foldl_nil, countSlot_mark, List.map_cons,
    List.map_nil, List.sum_cons, List.sum_nil]
  omega

/-- A discharged slot is counted in its lane and in the mark counts alone. -/
theorem countSlot_others (st : Settings) (l : Lane) (x : Slot) (b : CounterBank) :
    (countSlot st l x b).strokes = b.strokes ∧ (countSlot st l x b).failing = b.failing ∧
    (countSlot st l x b).downgrades = b.downgrades := by
  cases x with
  | record c => exact (foldl_incMark_frame _ _).2
  | unknown | none => exact ⟨rfl, rfl, rfl⟩

theorem State.dischargeRow_others (s : State) (r : Row) :
    (s.dischargeRow r).discharge.bank.strokes = s.discharge.bank.strokes ∧
    (s.dischargeRow r).discharge.bank.failing = s.discharge.bank.failing ∧
    (s.dischargeRow r).discharge.bank.downgrades = s.discharge.bank.downgrades := by
  simp [dischargeRow_bank, Lane.all, countSlot_others]

/-! ## The actions (08 R144, R146) -/

namespace State

theorem dischargeSlot_flap (s : State) (l l' : Lane) (x : Slot) :
    (s.dischargeSlot l x).discharge.flaps.lane l' =
      if l' = l ∧ slotFate s.settings l x = some .reject then
        (s.discharge.flaps.lane l').give s.now s.settings.line.gateDelay s.settings.line.gatePulse
      else s.discharge.flaps.lane l' := by
  unfold dischargeSlot
  dsimp only
  split
  · next hf =>
    refine (Quad.lane_setLane _ l l' _).trans ?_
    by_cases e : l' = l
    · rw [if_pos e, if_pos ⟨e, hf⟩, e]
      rfl
    · rw [if_neg e, if_neg fun h => e h.1]
      rfl
  · next hf => exact (if_neg fun h => hf h.2).symm

theorem dischargeSlot_sample (s : State) (l : Lane) (x : Slot) :
    (s.dischargeSlot l x).discharge.sample = s.discharge.sample ∧
    (s.dischargeSlot l x).discharge.snapshot = s.discharge.snapshot := by
  unfold dischargeSlot
  dsimp only
  split <;> exact ⟨rfl, rfl⟩

/-- The four slots of a row taken one after the other, before the sample output acts. -/
def dischargeSlots (s : State) (r : Row) : State := Lane.all.foldl (fun t l => t.dischargeSlot l (r.lane l)) s

theorem dischargeSlots_flap (s : State) (r : Row) (l : Lane) :
    (s.dischargeSlots r).discharge.flaps.lane l =
      if slotFate s.settings l (r.lane l) = some .reject then
        (s.discharge.flaps.lane l).give s.now s.settings.line.gateDelay s.settings.line.gatePulse
      else s.discharge.flaps.lane l := by
  cases l <;> simp [dischargeSlots, Lane.all, dischargeSlot_flap, dischargeSlot_frame]

theorem dischargeSlots_sample (s : State) (r : Row) :
    (s.dischargeSlots r).discharge.sample = s.discharge.sample ∧
    (s.dischargeSlots r).discharge.snapshot = s.discharge.snapshot := by
  simp [dischargeSlots, Lane.all, dischargeSlot_sample]

theorem dischargeSlots_frame (s : State) (r : Row) :
    (s.dischargeSlots r).settings = s.settings ∧ (s.dischargeSlots r).now = s.now := by
  simp [dischargeSlots, Lane.all, dischargeSlot_frame]

/-- Some slot of a row is a SAMPLE. -/
def sampled (s : State) (r : Row) : Prop := ∃ l, slotFate s.settings l (r.lane l) = some .sample

theorem sampled_iff (s : State) (r : Row) :
    (Lane.all.any fun l => decide (slotFate s.settings l (r.lane l) = some .sample)) = true ↔ s.sampled r := by
  have all (l : Lane) : l ∈ Lane.all := by cases l <;> decide
  simp [List.any_eq_true, sampled, all]

theorem dischargeRow_of_sampled {s : State} {r : Row} (h : s.sampled r) :
    s.dischargeRow r = (s.dischargeSlots r).giveAction .sample := if_pos ((s.sampled_iff r).mpr h)

theorem dischargeRow_of_not_sampled {s : State} {r : Row} (h : ¬s.sampled r) :
    s.dischargeRow r = s.dischargeSlots r := if_neg fun e => h ((s.sampled_iff r).mp e)

/-- The sample output acts on no flap. -/
theorem dischargeRow_flaps (s : State) (r : Row) :
    (s.dischargeRow r).discharge.flaps = (s.dischargeSlots r).discharge.flaps ∧
    (s.dischargeRow r).discharge.snapshot = s.discharge.snapshot := by
  by_cases h : s.sampled r
  · rw [dischargeRow_of_sampled h]
    exact ⟨rfl, (s.dischargeSlots_sample r).2⟩
  · rw [dischargeRow_of_not_sampled h]
    exact ⟨rfl, (s.dischargeSlots_sample r).2⟩

end State

end Sys2Proof.Machine

namespace Sys2Proof.Proofs

open Sys2Proof.Machine

/-- Settles O47: each lane's counts and flap are moved by its own slot alone. -/
theorem dischargeRowTaken : Obligations.DischargeRowTaken := by
  intro s r t c fate held
  obtain ⟨hflaps, hsnapshot⟩ := s.dischargeRow_flaps r
  obtain ⟨hstrokes, hfailing, hdowngrades⟩ := s.dischargeRow_others r
  obtain ⟨hsample, -⟩ := s.dischargeSlots_sample r
  refine ⟨?_, hsnapshot, fun l => ?_, fun k => ?_, hstrokes, hfailing, hdowngrades, fun l => ?_, fun h => ?_,
    fun h => ?_⟩
  · show { s.dischargeRow r with discharge := s.discharge } = s
    rw [State.dischargeRow_eq]
    rfl
  · show (s.dischargeRow r).discharge.bank.lanes.lane l = _
    rw [State.dischargeRow_lane]
    dsimp only [fate]
    cases r.lane l with
    | record x =>
      dsimp only [slotFate, LaneCounts.takeSlot]
      cases cardFate s.settings.rules.toList l x <;> rfl
    | unknown =>
      dsimp only [slotFate, LaneCounts.takeSlot]
      cases s.settings.line.unknownPolicy <;> rfl
    | none => rfl
  · have counted : held k = Slot.markCount k := by
      funext x
      cases x <;> rfl
    rw [counted]
    exact s.dischargeRow_mark r k
  · have flap : t.discharge.flaps.lane l = _ := (congrArg (·.lane l) hflaps).trans (s.dischargeSlots_flap r l)
    exact ⟨fun h => flap.trans (if_pos h), fun h => flap.trans (if_neg h)⟩
  · show (s.dischargeRow r).discharge.sample = _
    rw [State.dischargeRow_of_sampled h]
    obtain ⟨hsettings, hnow⟩ := s.dischargeSlots_frame r
    show (s.dischargeSlots r).discharge.sample.give _ _ _ = _
    rw [hsample, hnow]
    simp only [hsettings]
    rfl
  · show (s.dischargeRow r).discharge.sample = _
    rw [State.dischargeRow_of_not_sampled fun ⟨l, hl⟩ => h l hl, hsample]

end Sys2Proof.Proofs
end

section
/-! # The flaps and the sample output (08 R144 to R146) -/

namespace Sys2Proof.Machine

namespace Flap

variable (f : Flap) (now : Nat) {delay : Nat} (pulse : Nat)

theorem give_of_free (hd : 0 < delay) (hp : f.pending = none) :
    f.give now delay pulse = ⟨some (now + delay), f.pulse⟩ := by
  simp [give, hp, Nat.ne_of_gt hd]

/-- A waiting action fires at once where another comes (08 R144). -/
theorem give_of_waiting (hd : 0 < delay) (hp : f.pending ≠ none) :
    f.give now delay pulse = ⟨some (now + delay), some (now + pulse)⟩ := by
  simp [give, fire, Option.isSome_iff_ne_none.mpr hp, Nat.ne_of_gt hd]

theorem give_zero : f.give now 0 pulse = ⟨none, some (now + pulse)⟩ := by
  simp only [give, fire, if_true]

end Flap

section Timers

variable {s : State} {o : GateOutput} {d : Nat}

/-- A waiting action reaches its due time (08 R145). -/
theorem execFlapDue_fires (hp : s.phase = .running) (hd : (s.discharge.gate o).pending = some d) :
    execFlapDue o s = .next ((s.reach d).setDischarge (s.discharge.setGate o
      ⟨none, some (max s.now d + gatePulseOf s.settings.line o)⟩)) := by
  rw [execFlapDue, hd]
  exact congrArg Host.Outcome.next (if_pos (decide_eq_true hp))

/-- A pulse reaches its end time (08 R145). -/
theorem execFlapPulseEnd_drops (hp : s.phase = .running) (hd : (s.discharge.gate o).pulse = some d) :
    execFlapPulseEnd o s = .next ((s.reach d).setDischarge (s.discharge.setGate o
      ⟨(s.discharge.gate o).pending, none⟩)) := by
  rw [execFlapPulseEnd, hd]
  exact congrArg Host.Outcome.next (if_pos (decide_eq_true hp))

end Timers

end Sys2Proof.Machine

namespace Sys2Proof.Proofs

open Sys2Proof.Machine

/-- Settles O48: the statement's output, pulse length and next state are those of the model's operations on a gate. -/
theorem flapActions : Obligations.FlapActions := by
  constructor
  · intro f now delay pulse
    refine ⟨f.give_of_free now pulse, f.give_of_waiting now pulse, ?_⟩
    rintro rfl
    exact f.give_zero now pulse
  · intro o s d hp
    cases o with
    | flap l => exact ⟨execFlapDue_fires (o := .flap l) hp, execFlapPulseEnd_drops (o := .flap l) hp⟩
    | sample => exact ⟨execFlapDue_fires (o := .sample) hp, execFlapPulseEnd_drops (o := .sample) hp⟩

end Sys2Proof.Proofs
end

section
/-! # READ RULE and WRITE RULE (08 R141, R142) -/

namespace Sys2Proof.Machine

/-! ## The codes of a rule's fields (11 section 11.8) -/

/-- The code of a rule's recipe, as READ RULE sends it: 10h for ANY. -/
def recipeCode (r : Option (Fin 16)) : Nat :=
  match r with
  | some k => k.val
  | none => 0x10

/-- The code of a rule's lane: 4 for ANY. -/
def laneCode (l : Option Lane) : Nat :=
  match l with
  | some l => l.number
  | none => 4

theorem ruleBytes_eq (n : Fin 8) (r : Rule) :
    ruleBytes n r = [byte n.val, byte (boolCode r.active), byte (recipeCode r.recipe), byte (laneCode r.lane),
      byte r.mark.code, byte r.fate.code] := by
  cases r with
  | mk active recipe lane mark fate => cases recipe <;> cases lane <;> rfl

theorem recipeCode_le (r : Option (Fin 16)) : recipeCode r ≤ 0x10 := by
  cases r with
  | none => exact Nat.le_refl _
  | some k => exact Nat.le_of_lt k.isLt

theorem ruleRecipeOfCode_recipeCode (r : Option (Fin 16)) : ruleRecipeOfCode (recipeCode r) = some r := by
  cases r with
  | none => rfl
  | some k =>
    have hk : k.val ≠ 0x10 := Nat.ne_of_lt k.isLt
    rw [recipeCode, ruleRecipeOfCode, if_neg hk, indexOfCode_val]
    rfl

theorem ruleLaneOfCode_laneCode (l : Option Lane) : ruleLaneOfCode (laneCode l) = some l := by
  match l with
  | none | some .a | some .b | some .c | some .d => rfl

theorem markConditionOfCode_code (m : MarkCondition) : markConditionOfCode m.code = some m := by
  cases m with
  | any | none => rfl
  | holds k => cases k <;> rfl

theorem fateOfCode_code (f : Fate) : fateOfCode f.code = some f := by cases f <;> rfl

/-- The codes of the four fields fit a byte. -/
theorem codes_lt (r : Rule) :
    recipeCode r.recipe < 256 ∧ laneCode r.lane < 256 ∧ r.mark.code < 256 ∧ r.fate.code < 256 := by
  refine ⟨by have := recipeCode_le r.recipe; omega, ?_, ?_, ?_⟩
  · match r.lane with
    | none | some .a | some .b | some .c | some .d => decide
  · cases r.mark with
    | any | none => decide
    | holds k => exact Nat.lt_trans k.index.isLt (by decide)
  · cases r.fate <;> decide

/-! ## The codes that are in their sets, and the others -/

section Sets

variable {n : Nat}

theorem ruleRecipeOfCode_eq_none (h : 0x10 < n) : ruleRecipeOfCode n = none := by
  rw [ruleRecipeOfCode, if_neg (by omega), indexOfCode_eq_none (by omega)]
  rfl

theorem ruleRecipeOfCode_eq_some (h : n ≤ 0x10) : ∃ r, ruleRecipeOfCode n = some r := by
  by_cases e : n = 0x10
  · exact ⟨none, if_pos e⟩
  · refine ⟨some ⟨n, by omega⟩, ?_⟩
    rw [ruleRecipeOfCode, if_neg e, indexOfCode_eq_some]
    rfl

theorem ruleLaneOfCode_eq_none (h : 4 < n) : ruleLaneOfCode n = none := by
  rw [ruleLaneOfCode, if_neg (by omega), laneOfCode_eq_none (by omega)]
  rfl

theorem ruleLaneOfCode_eq_some (h : n ≤ 4) : ∃ l, ruleLaneOfCode n = some l := by
  by_cases e : n = 4
  · exact ⟨none, if_pos e⟩
  · obtain ⟨l, hl, -⟩ := laneOfCode_eq_some (n := n) (by omega)
    refine ⟨some l, ?_⟩
    rw [ruleLaneOfCode, if_neg e, hl]
    rfl

theorem markConditionOfCode_eq_none (h : 0x11 < n) : markConditionOfCode n = none := by
  have beyond : markOfCode n = none := List.getElem?_eq_none (show MarkKind.all.length ≤ n by
    simp only [MarkKind.all, List.length_cons, List.length_nil]
    omega)
  rw [markConditionOfCode, if_neg (by omega), if_neg (by omega), beyond]
  rfl

theorem markConditionOfCode_eq_some (h : n ≤ 0x11) : ∃ m, markConditionOfCode n = some m := by
  by_cases any : n = 0x10
  · exact ⟨.any, if_pos any⟩
  by_cases none : n = 0x11
  · exact ⟨.none, by rw [markConditionOfCode, if_neg any, if_pos none]⟩
  · have within : n < MarkKind.all.length := by
      simp only [MarkKind.all, List.length_cons, List.length_nil]
      omega
    refine ⟨.holds MarkKind.all[n], ?_⟩
    rw [markConditionOfCode, if_neg any, if_neg none, markOfCode, List.getElem?_eq_getElem within]
    rfl

theorem fateOfCode_eq_none (h : 2 < n) : fateOfCode n = none := by
  match n with
  | 0 | 1 | 2 => omega
  | _ + 3 => rfl

end Sets

/-! ## The rule of WRITE RULE (08 R141) -/

section WriteRule

variable {p : List Byte} {s : State} {n : Fin 8}

/-- A code out of its set is refused with its field number, the first of several in the order of step 3. -/
theorem writeRuleRule_refused (hn : byteAt p 0 ≤ 7) (hm : s.mode.mode ≠ .starting) (hb : ¬s.storing) :
    (0x10 < byteAt p 2 → writeRuleRule p s = refuseField s 1) ∧
    (byteAt p 2 ≤ 0x10 → 4 < byteAt p 3 → writeRuleRule p s = refuseField s 2) ∧
    (byteAt p 2 ≤ 0x10 → byteAt p 3 ≤ 4 → 0x11 < byteAt p 4 → writeRuleRule p s = refuseField s 3) ∧
    (byteAt p 2 ≤ 0x10 → byteAt p 3 ≤ 4 → byteAt p 4 ≤ 0x11 → 2 < byteAt p 5 →
      writeRuleRule p s = refuseField s 4) := by
  have judged := indexOfCode_eq_some (Nat.lt_succ_of_le hn)
  have hstarting := State.starting_eq_false hm
  have hbusy := State.store_busy_eq_false hb
  refine ⟨fun hr => ?_, fun hr hl => ?_, fun hr hl hk => ?_, fun hr hl hk hf => ?_⟩
  · simp only [writeRuleRule, judged, hstarting, hbusy, ruleRecipeOfCode_eq_none hr, Bool.false_eq_true, if_false]
  · obtain ⟨r, er⟩ := ruleRecipeOfCode_eq_some hr
    simp only [writeRuleRule, judged, hstarting, hbusy, er, ruleLaneOfCode_eq_none hl, Bool.false_eq_true, if_false]
  · obtain ⟨r, er⟩ := ruleRecipeOfCode_eq_some hr
    obtain ⟨l, el⟩ := ruleLaneOfCode_eq_some hl
    simp only [writeRuleRule, judged, hstarting, hbusy, er, el, markConditionOfCode_eq_none hk, Bool.false_eq_true,
      if_false]
  · obtain ⟨r, er⟩ := ruleRecipeOfCode_eq_some hr
    obtain ⟨l, el⟩ := ruleLaneOfCode_eq_some hl
    obtain ⟨k, ek⟩ := markConditionOfCode_eq_some hk
    simp only [writeRuleRule, judged, hstarting, hbusy, er, el, ek, fateOfCode_eq_none hf, Bool.false_eq_true,
      if_false]

/-- The bytes of a rule are read as that rule, its active code as the byte sent (08 R141). -/
theorem writeRuleRule_installs (hm : s.mode.mode ≠ .starting) (hb : ¬s.storing) (a : Byte) (r : Rule) :
    writeRuleRule (byte n.val :: a :: (ruleBytes n r).drop 2) s =
      let w : Rule := { r with active := decide (0 < a.toNat) }
      (s.setSettings (s.settings.setRule n w), alone (if 1 < a.toNat then .clamped else .ok) ++ ruleBytes n w) := by
  obtain ⟨hrecipe, hlane, hmark, hfate⟩ := codes_lt r
  have bytes : byte n.val :: a :: (ruleBytes n r).drop 2 =
      [byte n.val, a, byte (recipeCode r.recipe), byte (laneCode r.lane), byte r.mark.code, byte r.fate.code] := by
    rw [ruleBytes_eq]
    rfl
  have judged : indexOfCode (byte n.val).toNat 8 = some n := by
    rw [toNat_byte (by omega), indexOfCode_val]
  have er : ruleRecipeOfCode (byte (recipeCode r.recipe)).toNat = some r.recipe := by
    rw [toNat_byte hrecipe, ruleRecipeOfCode_recipeCode]
  have el : ruleLaneOfCode (byte (laneCode r.lane)).toNat = some r.lane := by
    rw [toNat_byte hlane, ruleLaneOfCode_laneCode]
  have ek : markConditionOfCode (byte r.mark.code).toNat = some r.mark := by
    rw [toNat_byte hmark, markConditionOfCode_code]
  have ef : fateOfCode (byte r.fate.code).toNat = some r.fate := by
    rw [toNat_byte hfate, fateOfCode_code]
  rw [bytes]
  simp only [writeRuleRule, byteAt, List.getD_cons_zero, List.getD_cons_succ, judged, State.starting_eq_false hm,
    State.store_busy_eq_false hb, er, el, ek, ef, Bool.false_eq_true, if_false]

end WriteRule

end Sys2Proof.Machine

namespace Sys2Proof.Proofs

open Sys2Proof.Machine

/-- Settles O18: a number above 7 is judged first, then STARTING. -/
theorem readRuleAnswers : Obligations.ReadRuleAnswers := by
  refine ⟨fun b s hh => ⟨fun hb => execReadRule_out_of_range hh rfl hb, fun n hn => ⟨fun hm => ?_, fun hm => ?_⟩⟩,
    fun n => ?_⟩
  · exact execReadRule_busy hh rfl (show b.toNat ≤ 7 by omega) hm
  · show execReadRule [b] s = _
    refine serve_eq_afterReply hh rfl ?_
    have judged : indexOfCode (byteAt [b] 0) 8 = some n := by rw [← indexOfCode_val n, hn]; rfl
    simp only [judged, State.frameTaken_starting, State.starting_eq_false hm]
    rfl
  · have default : defaultSettings.rules[n.val] = ⟨false, none, none, .any, .reject⟩ := Vector.getElem_replicate _
    rw [default]
    exact ⟨rfl, rfl⟩

/-- Settles O19: a rule's bytes are read back as the rule, and the first code out of its set names its field. -/
theorem writeRuleJudged : Obligations.WriteRuleJudged := by
  intro s hm hb
  constructor
  · intro n a r p hh w
    have status : (if 1 < a.toNat then Status.clamped else Status.ok).code = if 1 < a.toNat then 1 else 0 := by
      split <;> rfl
    have installed : execWriteRule p s = _ :=
      serve_eq_answer hh rfl (writeRuleRule_installs (s := s.frameTaken) hm hb a r)
    refine installed.trans ?_
    rw [alone, status]
    rfl
  · intro n a r l m f hh
    have answered {reply : List Byte} (h : writeRuleRule [n, a, r, l, m, f] s.frameTaken = (s.frameTaken, reply)) :
        exec (.writeRule [n, a, r, l, m, f]) s = .next (s.afterReply 0x15#8 reply) := serve_eq_afterReply hh rfl h
    refine ⟨fun hn => answered (writeRuleRule_out_of_range hn), ?_⟩
    by_cases hn : n.toNat ≤ 7
    · obtain ⟨hrecipe, hlane, hmark, hfate⟩ :=
        writeRuleRule_refused (p := [n, a, r, l, m, f]) (s := s.frameTaken) hn hm hb
      exact ⟨fun _ hr => answered (hrecipe hr), fun _ hr hl => answered (hlane hr hl),
        fun _ hr hl hk => answered (hmark hr hl hk), fun _ hr hl hk hf => answered (hfate hr hl hk hf)⟩
    · exact ⟨fun h => absurd h hn, fun h => absurd h hn, fun h => absurd h hn, fun h => absurd h hn⟩

end Sys2Proof.Proofs
end

section
/-! # LATCH COUNTS, READ COUNTS and CLEAR COUNTS (08 R149 to R151) -/

namespace Sys2Proof.Machine

/-- The reply to a request that may be broadcast: none to a broadcast (10 R169). -/
def State.replyTo (t : State) (dest : Dest) (kind : Byte) (reply : List Byte) : State :=
  match dest with
  | .unicast => t.answer kind reply
  | .broadcast => t

theorem serveTo_eq_replyTo {dest : Dest} {i : Instr} {kind : Byte} {p : List Byte} {s t : State}
    {rule : State → Served} {reply : List Byte} (hh : s.hears i = true) (hf : fitsKind kind p = true)
    (hr : rule s.frameTaken = (t, reply)) : serveTo dest i kind p s rule = .next (t.replyTo dest kind reply) := by
  cases dest with
  | unicast => exact serve_eq_answer hh hf hr
  | broadcast =>
    simp only [serveTo, if_pos hh, if_pos hf, hr]
    rfl

section Counts

variable {s : State}

/-- The bank copied where no snapshot stands (08 R149). -/
def State.latched (s : State) : State :=
  s.setDischarge { s.discharge with
    snapshot := some (s.discharge.snapshot.getD ⟨s.discharge.bank, s.track.advances⟩) }

theorem State.latched_of_some {k : CountSnapshot} (h : s.discharge.snapshot = some k) : s.latched = s := by
  have stands : some (s.discharge.snapshot.getD ⟨s.discharge.bank, s.track.advances⟩) = s.discharge.snapshot := by
    rw [h]
    rfl
  rw [latched, stands]
  rfl

/-- LATCH COUNTS outside STARTING (08 R149). -/
theorem latchCounts_latches {dest : Dest} (hh : s.hears (.latchCounts dest []) = true)
    (hm : s.mode.mode ≠ .starting) :
    exec (.latchCounts dest []) s = .next (s.frameTaken.latched.replyTo dest 0x50#8
      [if s.discharge.snapshot.isSome then 2#8 else 0#8]) := by
  refine (serveTo_eq_replyTo hh (by rfl) ?_ : execLatchCounts dest [] s = _)
  simp only [State.frameTaken_starting, State.starting_eq_false hm, State.frameTaken_discharge]
  rcases Option.eq_none_or_eq_some s.discharge.snapshot with hk | ⟨k, hk⟩
  · simp only [State.latched, State.frameTaken_discharge, hk]
    rfl
  · rw [State.latched_of_some (s := s.frameTaken) hk]
    simp only [hk]
    rfl

/-- READ COUNTS of a snapshot, which it ends (08 R150). -/
theorem readCounts_of_snapshot {k : CountSnapshot} (hh : s.hears (.readCounts []) = true)
    (hk : s.discharge.snapshot = some k) :
    exec (.readCounts []) s = .next ({ s with discharge := { s.discharge with snapshot := none } }.afterReply 0x51#8
      (countsBytes 1 k.advances k.bank)) := by
  refine (serve_eq_answer (t := s.frameTaken.setDischarge { s.discharge with snapshot := none }) hh (by rfl) ?_ :
    execReadCounts [] s = _)
  simp only [State.frameTaken_discharge, hk]

/-- READ COUNTS of the live counts (08 R150). -/
theorem readCounts_of_live (hh : s.hears (.readCounts []) = true) (hk : s.discharge.snapshot = none) :
    exec (.readCounts []) s = .next (s.afterReply 0x51#8 (countsBytes 0 s.track.advances s.discharge.bank)) := by
  refine (serve_eq_afterReply hh (by rfl) ?_ : execReadCounts [] s = _)
  simp only [State.frameTaken_discharge, hk]
  rfl

/-- CLEAR COUNTS outside STARTING (08 R151). -/
theorem clearCounts_clears (hh : s.hears (.clearCounts []) = true) (hm : s.mode.mode ≠ .starting) :
    exec (.clearCounts []) s = .next ({ s with discharge := { s.discharge with
      bank := clearedBank s.track.rows, snapshot := none } }.afterReply 0x52#8 [0#8]) := by
  refine (serve_eq_answer (t := s.frameTaken.setDischarge { s.discharge with
    bank := clearedBank s.track.rows, snapshot := none }) hh (by rfl) ?_ : execClearCounts [] s = _)
  simp only [State.frameTaken_starting, State.starting_eq_false hm]
  rfl

theorem satAdd_zero (n : Nat) : satAdd 0#32 n = BitVec.ofNat 32 (min n 4294967295) := by
  simp only [satAdd, countMax, BitVec.toNat_ofNat, Nat.zero_mod, Nat.zero_add]

end Counts

end Sys2Proof.Machine

namespace Sys2Proof.Proofs

open Sys2Proof.Machine

/-- Settles O34, request by request. -/
theorem countRequests : Obligations.CountRequests := by
  intro s
  refine ⟨fun dest hh hm => ⟨_, latchCounts_latches hh hm, ?_⟩, fun hh => ⟨fun k => readCounts_of_snapshot hh,
    readCounts_of_live hh⟩, fun hh hm => ⟨_, clearCounts_clears hh hm, fun l => ?_, rfl, rfl, rfl, rfl⟩⟩
  · cases dest <;> exact ⟨rfl, rfl, rfl⟩
  · rw [clearedBank_lane, satAdd_zero]

end Sys2Proof.Proofs
end

section
/-! # The mode stays legal, and the part stays dropped through a reset (09 R153 to R155, R162, R163)

Every command but those of the supply and the RESET pin does one of two things: in the running part it keeps the part
running and its mode legal, and outside it notes at most the clock and the input pins. -/

namespace Sys2Proof.Machine

/-! ## A legal mode -/

/-- What `State.modeLegal` asks of the mode in every phase: INTERLOCK with RUN, the halt cause with HALTED, the prime
timer with STARTING. -/
def ModeUnit.legal (m : ModeUnit) : Prop :=
  (m.interlock = true ↔ m.mode = .run) ∧ (m.haltCause = .none ↔ m.mode ≠ .halted) ∧
  (m.primeDue.isSome = true ↔ m.mode = .starting)

theorem State.modeLegal_iff {s : State} :
    s.modeLegal ↔ s.mode.legal ∧ (s.phase ≠ .running → s.mode.mode = .idle) := by
  simp only [State.modeLegal, ModeUnit.legal, and_assoc]

/-- A mode entered with its halt cause; the prime timer stops, and STARTING is entered with it running (09 R155). -/
theorem ModeUnit.entered_legal {m : Mode} {c : HaltCause} (hm : m ≠ .starting) (hc : c = .none ↔ m ≠ .halted) :
    ModeUnit.legal ⟨m, c, none, decide (m = .run)⟩ :=
  ⟨decide_eq_true_iff, hc, by simp [hm]⟩

theorem ModeUnit.idleMode_legal : idleMode.legal := ModeUnit.entered_legal (m := .idle) (by decide) (by decide)

/-- START sets the prime timer in IDLE (09 R155). -/
theorem ModeUnit.legal.startPrime {m : ModeUnit} (h : m.legal) (hm : m.mode = .idle) (d : Nat) :
    ModeUnit.legal { m with mode := .starting, primeDue := some d } := by
  obtain ⟨hinterlock, hcause, -⟩ := h
  simp only [hm] at hinterlock hcause
  simpa [ModeUnit.legal] using And.intro hinterlock hcause

/-! ## The running part -/

/-- A running part whose mode is legal, if the mode `m` was that it had before. -/
def State.runsFrom (s : State) (m : ModeUnit) : Prop := s.phase = .running ∧ (m.legal → s.mode.legal)

namespace State

variable {s t : State} {m : ModeUnit}

theorem runsFrom.of_eq (h : s.runsFrom m) (hp : t.phase = s.phase) (hm : t.mode = s.mode) : t.runsFrom m :=
  ⟨hp.trans h.1, by rw [hm]; exact h.2⟩

theorem runsFrom.enterMode (h : s.runsFrom m) (x : Mode) (c : HaltCause) (hx : x ≠ .starting)
    (hc : c = .none ↔ x ≠ .halted) : (s.enterMode x c).runsFrom m :=
  ⟨h.1, fun _ => ModeUnit.entered_legal hx hc⟩

theorem runsFrom.enterIdle (h : s.runsFrom m) : (s.enterMode .idle .none).runsFrom m :=
  h.enterMode .idle .none (by decide) (by decide)

namespace runsFrom

/-! ### The press (05 R97, R103) -/

theorem terminate (h : s.runsFrom m) (c : EndCause) : (s.terminate c).runsFrom m :=
  h.of_eq (by simp only [terminate_frame]) (by simp only [terminate_frame])

theorem terminateAny (h : s.runsFrom m) (c : EndCause) : (s.terminateAny c).runsFrom m :=
  h.of_eq (by simp only [terminateAny_frame]) (by simp only [terminateAny_frame])

theorem haltRequest (h : s.runsFrom m) {c : HaltCause} (hc : c ≠ .none) : (s.haltRequest c).runsFrom m := by
  unfold State.haltRequest
  split
  · exact (h.terminateAny .stop).enterMode .halted c (by decide) (by simp [hc])
  · exact h

theorem pressIndex (h : s.runsFrom m) : s.pressIndex.runsFrom m := by
  unfold State.pressIndex
  split
  · split <;> exact h
  · exact haltRequest (s := s.abandonSettle) h (by decide)
  · exact (h.terminate _).haltRequest (by decide)
  · exact (h.terminate _).haltRequest (by decide)
  · exact h.haltRequest (by decide)
  · exact h.haltRequest (by decide)

theorem switchesShow (h : s.runsFrom m) (w : Switches) : (s.switchesShow w).runsFrom m := by
  unfold State.switchesShow
  dsimp only
  (repeat' split) <;> exact h

theorem beginStroke (h : s.runsFrom m) : s.beginStroke.runsFrom m := by
  have written (t : State) (ht : t.runsFrom m) (ns : List Serial) : (ns.foldl writePressing t).runsFrom m :=
    List.foldlRecOn (motive := (State.runsFrom · m)) ns writePressing ht fun u hu n _ =>
      hu.of_eq (by simp only [writePressing_frame]) (by simp only [writePressing_frame])
  unfold State.beginStroke enterDwell
  dsimp only
  split <;> exact written _ (by exact h) _

theorem strokeTick (h : s.runsFrom m) (codes : Quad (BitVec 12)) (px : BitVec 10) :
    (s.strokeTick codes px).runsFrom m := by
  have withPress (p : PressUnit) : (s.setPress p).runsFrom m := h
  unfold State.strokeTick testSample
  dsimp only
  split
  · split
    · split
      · exact (withPress _).terminate .complete
      · split
        · exact (withPress _).terminate .dwellLimit
        · exact withPress _
    · split <;> exact h
  · exact h

theorem closeTimedOut (h : s.runsFrom m) : s.closeTimedOut.runsFrom m := by
  have counted (p : PressUnit) : ((s.terminate .closeTimeout).setPress p).runsFrom m :=
    h.terminate .closeTimeout
  unfold State.closeTimedOut
  dsimp only
  split
  · exact (counted _).haltRequest (by decide)
  · exact counted _

/-! ### The index and WARN (06 R105, R108) -/

theorem edgeJudged (h : s.runsFrom m) : s.judgeEdge.restartStall.runsFrom m := by
  rw [judgeEdge_eq]
  exact h

theorem trackIndex (h : s.runsFrom m) : s.trackIndex.runsFrom m := by
  unfold State.trackIndex
  split
  · exact h.of_eq (by simp only [advance_frame]) (by simp only [advance_frame])
  · exact h

theorem handIndex (h : s.runsFrom m) : s.handIndex.runsFrom m := by
  have answered : s.trackIndex.pressIndex.runsFrom m := h.trackIndex.pressIndex
  unfold State.handIndex
  dsimp only
  split <;> exact answered

theorem indexEdge (h : s.runsFrom m) : s.indexEdge.runsFrom m := by
  unfold State.indexEdge
  split
  · exact h.edgeJudged.handIndex
  · exact h

theorem warnShows (h : s.runsFrom m) (level : Bool) : (s.warnShows level).runsFrom m := by
  have seen (x : Pins) (r : RhythmUnit) : ((s.setPins x).setRhythm r).runsFrom m := h
  unfold State.warnShows warnPress
  dsimp only
  split
  · split
    · split
      case h_2 | h_3 => exact (seen _ _).terminate .warning
      all_goals exact h
    · exact h
  · exact h

/-! ### The zones and the selector (04 R64, 07 R130) -/

theorem sampleZones (h : s.runsFrom m) (codes : Quad (BitVec 12)) (px : BitVec 10) :
    (s.sampleZones codes px).runsFrom m :=
  List.foldlRecOn (motive := (State.runsFrom · m)) _ State.raise h fun _ ht _ _ => ht

theorem restore (h : s.runsFrom m) (r : RestoreSource) : (s.restore r).runsFrom m :=
  h.of_eq (by simp only [restore_frame]) (by simp only [restore_frame])

theorem recomputeRestoring (h : s.runsFrom m) (r : RestoreSource) : (s.recomputeRestoring r).runsFrom m :=
  h.of_eq (by simp only [recomputeRestoring_frame]) (by simp only [recomputeRestoring_frame])

theorem advertise (h : s.runsFrom m) (mask : GradeSet) : (s.advertise mask).runsFrom m := by
  obtain ⟨n, e, -⟩ := s.advertise_eq mask
  rw [e]
  exact recomputeRestoring (s := s.withCapability mask) h .advertise

theorem installSettings (h : s.runsFrom m) (st : Settings) : (s.installSettings st).runsFrom m :=
  h.of_eq (by simp only [installSettings_frame]) (by simp only [installSettings_frame])

theorem writeRecipe (h : s.runsFrom m) (n : Fin 16) (r : Recipe) : (s.writeRecipe n r).runsFrom m := by
  refine h.of_eq ?_ (by simp only [writeRecipe_frame])
  unfold State.writeRecipe
  dsimp only
  split <;> simp [handGrade_frame]

/-! ### The mode requests and the prime (09 R157, R160, R161) -/

theorem judgePrime (h : s.runsFrom m) : s.judgePrime.runsFrom m := by
  unfold State.judgePrime
  split
  · exact h.enterIdle
  · split
    · exact h.enterMode .run .none (by decide) (by decide)
    · exact h.enterIdle

theorem stopLine (h : s.runsFrom m) : s.stopLine.runsFrom m :=
  (restore (s := (s.terminateAny .stop).purge) (h.terminateAny .stop) .stop).enterIdle

theorem stopPrime (h : s.runsFrom m) : s.stopPrime.runsFrom m :=
  restore (s := (s.setRows (s.track.rows.map fun _ => unknownRow)).enterMode .idle .none) h.enterIdle .stop

theorem softReset (h : s.runsFrom m) : s.softReset.runsFrom m := by
  have hphase : s.softReset.phase = s.phase := by simp [State.softReset, terminateAny_frame]
  have hmode : s.softReset.mode = idleMode := by
    simp only [State.softReset, setLink_mode, setNotices_mode, pressFromSwitches_mode, setDischarge_mode,
      setRhythm_mode, setGrade_mode]
    rfl
  exact ⟨hphase.trans h.1, by rw [hmode]; exact fun _ => ModeUnit.idleMode_legal⟩

theorem startIdle (h : s.runsFrom m) (hm : s.mode.mode = .idle) : (Machine.startIdle s).1.runsFrom m := by
  unfold Machine.startIdle
  repeat' split
  case h_2.isFalse => exact ⟨h.1, fun hm' => (h.2 hm').startPrime hm _⟩
  all_goals exact h

end runsFrom

end State

/-! ## What a running part's commands keep -/

/-- The commands of the supply and the RESET pin, which alone move the phase (09 R162, R163). -/
def movesPhase (i : Instr) : Bool :=
  match i with
  | .powerOn | .powerLoss | .pinReset | .resetRelease | .settingsLoad _ _ => true
  | _ => false

theorem takeTrackRequest_runsFrom {r : TrackRequest} {m : ModeUnit} {s t : State} (hs : s.runsFrom m)
    (h : takeTrackRequest r s = .next t) : t.runsFrom m := by
  obtain ⟨u, hu, e, -⟩ := takeTrackRequest_frame r s
  cases hu.symm.trans h
  exact hs.of_eq (congrArg State.phase e :) (congrArg State.mode e :)

theorem execIndexEvent_runsFrom {edge : IndexEdge} {m : ModeUnit} {s t : State} (hs : s.runsFrom m)
    (h : execIndexEvent edge s = .next t) : t.runsFrom m := by
  have hs' : (s.elapse edge.after).runsFrom m := hs
  unfold execIndexEvent at h
  dsimp only at h
  split at h
  · cases h
    exact hs'.indexEdge
  · next r _ =>
    split at h
    · obtain ⟨u, hu, -⟩ := takeTrackRequest_frame r (s.elapse edge.after).judgeEdge.restartStall.trackIndex
      rw [hu] at h
      cases h
      exact (takeTrackRequest_runsFrom hs'.edgeJudged.trackIndex hu).pressIndex
    · exact takeTrackRequest_runsFrom hs' h

/-- Every command but those of the supply and the RESET pin keeps a running part running, in a legal mode. -/
theorem exec_runsFrom {i : Instr} {m : ModeUnit} {s t : State} (hi : movesPhase i = false) (hs : s.runsFrom m)
    (h : exec i s = .next t) : t.runsFrom m := by
  have keep := @serve_keeps (State.runsFrom · m) fun _ _ hu => hu
  have keepTo := @serveTo_keeps (State.runsFrom · m) fun _ _ hu => hu
  cases i with
  | powerOn | powerLoss | pinReset | resetRelease | settingsLoad => cases hi
  | identify | status | clearFlags | setNoticeMask | fetchNotice | readLine | readRecipe | readRule
  | setWindow | nextChunk | abort | setReturnSize | readCounts | clearCounts | storeSettings =>
    dsimp only [exec, execIdentify, execStatus, execClearFlags, execSetNoticeMask, execFetchNotice, execReadLine,
      execReadRecipe, execReadRule, execSetWindow, execNextChunk, execAbort, execSetReturnSize,
      execReadCounts, execClearCounts, execStoreSettings] at h
    refine keep hs ?_ h
    repeat' split
    all_goals exact hs
  | configureLine p =>
    refine keep hs ?_ (show execConfigureLine p s = .next t from h)
    rcases configureLineRule_cases p s.frameTaken with e | ⟨-, e⟩ <;> rw [e]
    · exact hs
    · exact State.runsFrom.installSettings (s := s.frameTaken) hs _
  | writeRecipe p =>
    refine keep hs ?_ (show execWriteRecipe p s = .next t from h)
    rcases writeRecipeRule_cases p s.frameTaken with e | ⟨-, n, e⟩ <;> rw [e]
    · exact hs
    · exact State.runsFrom.writeRecipe (s := s.frameTaken) hs n _
  | assignRecipe p =>
    refine keep hs ?_ (show execAssignRecipe p s = .next t from h)
    unfold assignRecipeRule
    split
    · iterate 4
        split
        · exact hs
      exact State.runsFrom.recomputeRestoring (s := s.frameTaken.setSettings _) hs .assign
    all_goals exact hs
  | writeRule p =>
    refine keep hs ?_ (show execWriteRule p s = .next t from h)
    unfold writeRuleRule
    repeat' split
    all_goals exact hs
  | recallSettings p =>
    refine keep hs ?_ (show execRecallSettings p s = .next t from h)
    iterate 3
      split
      · exact hs
    split
    · exact hs
    · exact State.runsFrom.installSettings (s := s.frameTaken) hs _
  | advertiseGrades p =>
    refine keep hs ?_ (show execAdvertiseGrades p s = .next t from h)
    iterate 2
      split
      · exact hs
    exact State.runsFrom.advertise (s := s.frameTaken) hs _
  | restoreGrade p =>
    refine keep hs ?_ (show execRestoreGrade p s = .next t from h)
    split
    · exact hs
    · exact State.runsFrom.restore (s := s.frameTaken) hs .request
  | start p =>
    refine keep hs ?_ (show execStart p s = .next t from h)
    split
    next hm => exact State.runsFrom.startIdle (s := s.frameTaken) hs hm
    all_goals exact hs
  | stop dest p =>
    refine keepTo hs ?_ (show execStop dest p s = .next t from h)
    split
    · exact hs
    · exact State.runsFrom.stopPrime (s := s.frameTaken) hs
    · exact State.runsFrom.stopLine (s := s.frameTaken) hs
    · exact State.runsFrom.stopLine (s := s.frameTaken) hs
  | resume p =>
    refine keep hs ?_ (show execResume p s = .next t from h)
    split
    case h_4 =>
      split
      · exact State.runsFrom.enterMode (s := s.frameTaken) hs .run .none (by decide) (by decide)
      · exact hs
    all_goals exact hs
  | softReset dest p =>
    refine keepTo hs ?_ (show execSoftReset dest p s = .next t from h)
    iterate 2
      split
      · exact hs
    exact State.runsFrom.softReset (s := s.frameTaken) hs
  | latchCounts dest p =>
    refine keepTo hs ?_ (show execLatchCounts dest p s = .next t from h)
    repeat' split
    all_goals exact hs
  | reportFill p => exact takeTrackRequest_runsFrom (r := .reportFill p) hs h
  | reportPlace p => exact takeTrackRequest_runsFrom (r := .reportPlace p) hs h
  | reportVision p => exact takeTrackRequest_runsFrom (r := .reportVision p) hs h
  | lookup p => exact takeTrackRequest_runsFrom (r := .lookup p) hs h
  | markCard p => exact takeTrackRequest_runsFrom (r := .markCard p) hs h
  | markWindow p => exact takeTrackRequest_runsFrom (r := .markWindow p) hs h
  | readWindow p => exact takeTrackRequest_runsFrom (r := .readWindow p) hs h
  | indexEvent edge => exact execIndexEvent_runsFrom hs h
  | warnEdge after level =>
    cases h
    exact State.runsFrom.warnShows (s := s.elapse after) hs level
  | closedConfirmation after sw | openConfirmation after sw =>
    cases h
    exact State.runsFrom.switchesShow (s := s.elapse after) hs sw
  | settleExpiry =>
    cases h
    dsimp only
    split
    · next d _ =>
      split
      · split
        · exact State.runsFrom.beginStroke (s := s.reach d) hs
        · exact hs
      · exact hs
    · exact hs
  | closeTimeout =>
    cases h
    split
    · next d _ =>
      split
      · exact State.runsFrom.closeTimedOut (s := s.reach d) hs
      · exact hs
    · exact hs
  | openTimeout =>
    cases h
    dsimp only
    split
    · split
      · exact State.runsFrom.haltRequest (s := (s.reach _).setPress _) hs (by decide)
      · exact hs
    · exact hs
  | samplingTick codes px =>
    cases h
    split
    · exact (State.runsFrom.sampleZones (s := s.reach s.zones.nextTick) hs codes px).strokeTick codes px
    · exact hs
  | predictedDeadline =>
    cases h
    split
    · next d _ =>
      split
      · exact State.runsFrom.terminateAny (s := s.reach d) hs .predicted
      · exact hs
    · exact hs
  | restoreIdleSignal =>
    cases h
    split
    · split
      · exact State.runsFrom.restore (s := (s.reach _).setRhythm _) hs .idle
      · exact hs
    · exact hs
  | primeEnd =>
    cases h
    split
    · next d _ =>
      split
      · exact State.runsFrom.judgePrime (s := s.reach d) hs
      · exact hs
    · exact hs
  | unknownKind | frameCrcDiscard | foreignFrame | broadcastIgnored | frameOverrunDiscard | lineIdleArmed
  | frameGapTimeout | linkByteReceived | replyAbandoned | replySent | replyBegin | flapDue | flapPulseEnd
  | storeComplete | stall =>
    cases h
    repeat' split
    all_goals exact hs

/-! ## Outside the running part nothing answers (09 R162, R163) -/

/-- `t` is `s` but for the clock, the input pins and, where a reply stands, the Link Port. -/
def State.unanswered (s t : State) : Prop :=
  ∃ x w k, t = ((s.setNow x).setPins w).setLink k ∧ (s.link.reply = .none → k = s.link)

theorem State.unanswered.noted (s : State) (x : Nat) (w : Pins) : s.unanswered ((s.setNow x).setPins w) :=
  ⟨x, w, s.link, rfl, fun _ => rfl⟩

theorem State.unanswered.refl (s : State) : s.unanswered s := .noted s s.now s.pins

section NotRunning

variable {s t : State}

theorem State.running_eq_false (hp : s.phase ≠ .running) : s.running = false := decide_eq_false hp

theorem State.hears_eq_false (hp : s.phase ≠ .running) (i : Instr) : s.hears i = false :=
  Bool.eq_false_iff.mpr fun hh => hp (State.phase_of_hears hh)

/-- The levels of the pins are noted (assumption 4). -/
theorem State.warnShows_of_not_running (hp : s.phase ≠ .running) (level : Bool) :
    s.warnShows level = s.setPins { s.pins with warn := level } := if_neg (by simp [State.running, hp])

theorem State.switchesShow_of_not_running (hp : s.phase ≠ .running) (w : Switches) :
    s.switchesShow w = s.setPins { s.pins with switches := w } := if_neg (by simp [State.running, hp])

variable {i : Instr} {dest : Dest} {kind : Byte} {p : List Byte} {rule : State → Served}

theorem serve_of_not_running (hp : s.phase ≠ .running) : serve i kind p s rule = .next s :=
  if_neg (by simp [State.hears_eq_false hp])

theorem serveTo_of_not_running (hp : s.phase ≠ .running) : serveTo dest i kind p s rule = .next s := by
  cases dest
  · exact serve_of_not_running hp
  · exact if_neg (by simp [State.hears_eq_false hp])

/-- No request is heard. -/
theorem exec_request_of_not_running (hp : s.phase ≠ .running) (hi : requestParts i = some (dest, kind, p)) :
    exec i s = .next s := by
  have unheard : ¬s.hears i = true := by simp [State.hears_eq_false hp]
  cases i <;> cases hi
  case stop | softReset | latchCounts => exact serveTo_of_not_running hp
  all_goals exact if_neg unheard

theorem takeTrackRequest_of_not_running (hp : s.phase ≠ .running) (r : TrackRequest) :
    takeTrackRequest r s = .next s := by
  rw [takeTrackRequest_eq]
  cases r <;> exact exec_request_of_not_running hp rfl

/-- An edge on INDEX lets its time pass and is ignored. -/
theorem execIndexEvent_unanswered {edge : IndexEdge} (hp : s.phase ≠ .running) (h : execIndexEvent edge s = .next t) :
    s.unanswered t := by
  have hrun : (s.elapse edge.after).running = false := State.running_eq_false hp
  have passed : s.unanswered (s.elapse edge.after) := .noted s _ s.pins
  unfold execIndexEvent at h
  simp only [State.indexEdge, hrun, Bool.false_and, Bool.false_eq_true, if_false] at h
  split at h
  · cases h
    exact passed
  · cases (takeTrackRequest_of_not_running (s := s.elapse edge.after) hp _).symm.trans h
    exact passed

/-- Outside the running part a command that is none of the supply's and the RESET pin's is not answered. -/
theorem exec_unanswered (hp : s.phase ≠ .running) (hi : movesPhase i = false) (h : exec i s = .next t) :
    s.unanswered t := by
  have hrun : s.running = false := State.running_eq_false hp
  cases hreq : requestParts i with
  | some parts =>
    obtain ⟨dest, kind, p⟩ := parts
    cases (exec_request_of_not_running hp hreq).symm.trans h
    exact .refl s
  | none =>
    cases i with
    | powerOn | powerLoss | pinReset | resetRelease | settingsLoad => cases hi
    | indexEvent edge => exact execIndexEvent_unanswered hp h
    | warnEdge after level =>
      cases h
      rw [State.warnShows_of_not_running (s := s.elapse after) hp]
      exact .noted s _ _
    | closedConfirmation after sw | openConfirmation after sw =>
      cases h
      rw [State.switchesShow_of_not_running (s := s.elapse after) hp]
      exact .noted s _ _
    | replySent =>
      cases h
      split
      · next e => exact ⟨s.now, s.pins, _, rfl, fun h => by simp [h] at e⟩
      all_goals exact .refl s
    | unknownKind | frameCrcDiscard | foreignFrame | broadcastIgnored =>
      cases h
      simp only [State.hears_eq_false hp, Bool.false_and, Bool.false_eq_true, if_false]
      exact .refl s
    | frameOverrunDiscard | lineIdleArmed | frameGapTimeout | linkByteReceived | samplingTick | stall | storeComplete =>
      cases h
      simp only [State.receiving, hrun, Bool.false_and, Bool.false_eq_true, if_false]
      exact .refl s
    | replyAbandoned | replyBegin | settleExpiry | closeTimeout | openTimeout | predictedDeadline | restoreIdleSignal
    | primeEnd | flapDue | flapPulseEnd =>
      cases h
      simp only [State.receiving, hrun, Bool.false_and, Bool.false_eq_true, if_false]
      split <;> exact .refl s
    | _ => cases hreq

end NotRunning

/-! ## The supply and the RESET pin (06 R105; 07 R120; 08 R147; 09 R162, R163) -/

/-- What `State.resetHeld` asks of a part that is not running. -/
def State.outputsDropped (s : State) : Prop :=
  s.press.pressClose = false ∧ s.mode.interlock = false ∧ (∀ l, s.rejLine l = false) ∧ s.sampleLine = false ∧
  s.grade.lines = 0#2 ∧ s.attn = false ∧ s.link.receiver = .hunt ∧ s.link.reply = .none ∧ s.link.window = none

theorem State.resetHeld_iff {s : State} : s.resetHeld ↔ (s.phase ≠ .running → s.outputsDropped) := Iff.rfl

theorem State.assertReset_outputsDropped (s : State) : s.assertReset.outputsDropped :=
  ⟨rfl, rfl, fun l => by cases l <;> rfl, rfl, rfl, rfl, rfl, rfl, rfl⟩

theorem State.outputsDropped.clearCounts {s : State} (h : s.outputsDropped) : s.clearCounts.outputsDropped := h

theorem State.losePower_outputsDropped (s : State) : s.losePower.outputsDropped :=
  State.outputsDropped.clearCounts s.assertReset_outputsDropped

theorem State.modeLegal_of_idleMode {s : State} (h : s.mode = idleMode) : s.modeLegal :=
  State.modeLegal_iff.mpr ⟨by rw [h]; exact ModeUnit.idleMode_legal, fun _ => by rw [h]; rfl⟩

@[simp] theorem State.assertReset_mode (s : State) : s.assertReset.mode = idleMode := rfl

@[simp] theorem State.losePower_mode (s : State) : s.losePower.mode = idleMode := rfl

theorem State.finishLoad_phase_mode (s : State) (k : ResetKind) (a : BitVec 5) (r : BitVec 2) :
    (s.finishLoad k a r).phase = .running ∧ (s.finishLoad k a r).mode = idleMode := by
  unfold State.finishLoad
  dsimp only
  split <;> exact ⟨rfl, rfl⟩

/-- Every command keeps the mode legal. -/
theorem exec_modeLegal {i : Instr} {s t : State} (hs : s.modeLegal) (h : exec i s = .next t) : t.modeLegal := by
  obtain ⟨hlegal, hidle⟩ := State.modeLegal_iff.mp hs
  by_cases hi : movesPhase i = false
  · by_cases hp : s.phase = .running
    · obtain ⟨hp', hm⟩ := exec_runsFrom hi ⟨hp, id⟩ h
      exact State.modeLegal_iff.mpr ⟨hm hlegal, fun hn => absurd hp' hn⟩
    · obtain ⟨x, w, k, rfl, -⟩ := exec_unanswered hp hi h
      exact hs
  · cases i with
    | powerOn | powerLoss =>
      cases h
      exact State.modeLegal_of_idleMode s.losePower_mode
    | pinReset =>
      cases h
      split
      · exact hs
      · exact State.modeLegal_of_idleMode s.assertReset_mode
    | resetRelease =>
      cases h
      split
      · next hp => exact State.modeLegal_iff.mpr ⟨hlegal, fun _ => hidle (by simp [hp])⟩
      · exact hs
    | settingsLoad address rate =>
      cases h
      split
      · exact State.modeLegal_of_idleMode (s.finishLoad_phase_mode _ address rate).2
      all_goals exact hs
    | _ => exact absurd rfl hi

/-- Every command keeps the outputs dropped from a reset's start to its end. -/
theorem exec_resetHeld {i : Instr} {s t : State} (hs : s.resetHeld) (h : exec i s = .next t) : t.resetHeld := by
  by_cases hi : movesPhase i = false
  · by_cases hp : s.phase = .running
    · exact fun hn => absurd (exec_runsFrom hi ⟨hp, id⟩ h).1 hn
    · obtain ⟨x, w, k, rfl, hk⟩ := exec_unanswered hp hi h
      have dropped : s.outputsDropped := State.resetHeld_iff.mp hs hp
      obtain ⟨-, -, -, -, -, -, -, hreply, -⟩ := dropped
      rw [hk hreply]
      exact hs
  · cases i with
    | powerOn | powerLoss =>
      cases h
      exact fun _ => s.losePower_outputsDropped
    | pinReset =>
      cases h
      split
      · exact hs
      · exact fun _ => s.assertReset_outputsDropped
    | resetRelease =>
      cases h
      split
      · next hp => exact fun _ => hs (by simp [hp])
      · exact hs
    | settingsLoad address rate =>
      cases h
      split
      · exact fun hn => absurd (s.finishLoad_phase_mode _ address rate).1 hn
      all_goals exact hs
    | _ => exact absurd rfl hi

end Sys2Proof.Machine

namespace Sys2Proof.Proofs

open Sys2Proof.Machine

/-- Settles O51: a step runs a command on the queue's rest, or moves the clock alone, and keeps each of the two by
itself. -/
theorem modeStaysLegal : Obligations.ModeStaysLegal := by
  intro s t h
  unfold step at h
  split at h
  · next i rest _ =>
    exact ⟨fun hs => exec_modeLegal (s := s.setPending rest) hs h,
      fun hs => exec_resetHeld (s := s.setPending rest) hs h⟩
  · cases h
    exact ⟨id, id⟩

end Sys2Proof.Proofs
end

section
/-! # START, RESUME and the end of the prime (09 R155, R157, R159) -/

namespace Sys2Proof

/-! ## The first lane or zone that a search finds -/

/-- A search of things in the order of their numbers finds the first that it seeks. -/
theorem find?_eq_some_of_first {α : Type} {number : α → Nat} {p : α → Bool} {a : α} (ha : p a = true)
    (hfirst : ∀ b, number b < number a → p b = false) :
    ∀ {l : List α}, l.Pairwise (fun x y => number x < number y) → a ∈ l → l.find? p = some a
  | [], _, hmem => nomatch hmem
  | x :: xs, hsorted, hmem => by
    obtain ⟨hx, hxs⟩ := List.pairwise_cons.mp hsorted
    rcases List.mem_cons.mp hmem with rfl | hmem
    · exact List.find?_cons_of_pos ha
    · rw [List.find?_cons_of_neg (by simp [hfirst x (hx a hmem)])]
      exact find?_eq_some_of_first ha hfirst hxs hmem

theorem Lane.mem_all (l : Lane) : l ∈ Lane.all := by cases l <;> decide

theorem Zone.mem_all (z : Zone) : z ∈ Zone.all := by cases z <;> decide

theorem Lane.find?_all {p : Lane → Bool} {l : Lane} (hl : p l = true)
    (hfirst : ∀ k : Lane, k.number < l.number → p k = false) : Lane.all.find? p = some l :=
  find?_eq_some_of_first hl hfirst (by decide) l.mem_all

theorem Zone.find?_all {p : Zone → Bool} {z : Zone} (hz : p z = true)
    (hfirst : ∀ y : Zone, y.number < z.number → p y = false) : Zone.all.find? p = some z :=
  find?_eq_some_of_first hz hfirst (by decide) z.mem_all

end Sys2Proof

namespace Sys2Proof.Machine

variable {s : State}

/-- Open confirmation, read from the two switches (05 R82). -/
theorem State.openConfirmed_iff : s.openConfirmed = true ↔ s.pins.switches = ⟨true, false⟩ := by
  rcases h : s.pins.switches with ⟨o, c⟩
  cases o <;> cases c <;> simp [State.openConfirmed, openShown, h]

/-! ## START in IDLE (09 R155) -/

section Start

variable {l : Lane}

theorem Settings.lanes_ne_of_enabled {st : Settings} (h : st.enabled l = true) : st.line.lanes ≠ 0#4 := by
  intro e
  simp [Settings.enabled, LaneSet.has, e] at h

theorem Settings.invalidLane_eq_some {st : Settings} (hl : st.enabled l = true)
    (hv : (st.recipe (st.assigned.lane l)).valid = false)
    (hfirst : ∀ k : Lane, k.number < l.number → st.enabled k = true →
      (st.recipe (st.assigned.lane k)).valid = true) : st.invalidLane = some l := by
  refine Lane.find?_all (by simp [hl, hv]) fun k hk => ?_
  cases he : st.enabled k with
  | false => rfl
  | true => simp [hfirst k hk he]

theorem Settings.invalidLane_eq_none {st : Settings}
    (h : ∀ l : Lane, st.enabled l = true → (st.recipe (st.assigned.lane l)).valid = true) :
    st.invalidLane = none := by
  refine List.find?_eq_none.mpr fun l _ => ?_
  cases he : st.enabled l with
  | false => simp
  | true => simp [h l he]

theorem startIdle_no_lane (h : s.settings.line.lanes = 0#4) : startIdle s = (s, [12#8, 1#8, 0xFF#8]) := if_pos h

theorem startIdle_invalid (hl : s.settings.invalidLane = some l) (hn : s.settings.line.lanes ≠ 0#4) :
    startIdle s = (s, [12#8, 2#8, byte l.number]) := by
  rw [startIdle, if_neg hn, hl]
  rfl

theorem startIdle_conflict (hv : s.settings.invalidLane = none) (hn : s.settings.line.lanes ≠ 0#4)
    (hc : s.grade.common = 0#4) : startIdle s = (s, [6#8, 0#8, byte s.grade.capability.toNat]) := by
  simp only [startIdle, if_neg hn, hv, hc]
  rfl

theorem startIdle_starts (hv : s.settings.invalidLane = none) (hn : s.settings.line.lanes ≠ 0#4)
    (hc : s.grade.common ≠ 0#4) :
    startIdle s = (s.setMode { s.mode with mode := .starting, primeDue := some (s.now + 200) }, [0#8]) := by
  simp only [startIdle, if_neg hn, hv, if_neg hc]
  rfl

/-- START in IDLE is answered as `startIdle` answers. -/
theorem start_of_idle {t : State} {reply : List Byte} (hh : s.hears (.start []) = true) (hm : s.mode.mode = .idle)
    (hr : startIdle s.frameTaken = (t, reply)) : exec (.start []) s = .next (t.answer 0x20#8 reply) := by
  refine (serve_eq_answer hh (by rfl) ?_ : execStart [] s = _)
  simp only [State.frameTaken_mode, hm]
  exact hr

theorem start_of_underway (hh : s.hears (.start []) = true) (hm : s.mode.mode = .starting ∨ s.mode.mode = .run) :
    exec (.start []) s = .next (s.afterReply 0x20#8 [2#8]) := by
  refine (serve_eq_afterReply hh (by rfl) ?_ : execStart [] s = _)
  rcases hm with hm | hm <;> simp only [State.frameTaken_mode, hm] <;> rfl

theorem start_of_halted (hh : s.hears (.start []) = true) (hm : s.mode.mode = .halted) :
    exec (.start []) s = .next (s.afterReply 0x20#8 [4#8]) := by
  refine (serve_eq_afterReply hh (by rfl) ?_ : execStart [] s = _)
  simp only [State.frameTaken_mode, hm]
  rfl

end Start

/-! ## RESUME (09 R159) -/

section Resume

theorem resume_of_no_track (hh : s.hears (.resume []) = true) (hm : s.mode.mode = .idle ∨ s.mode.mode = .starting) :
    exec (.resume []) s = .next (s.afterReply 0x22#8 [4#8]) := by
  refine (serve_eq_afterReply hh (by rfl) ?_ : execResume [] s = _)
  rcases hm with hm | hm <;> simp only [State.frameTaken_mode, hm] <;> rfl

theorem resume_of_run (hh : s.hears (.resume []) = true) (hm : s.mode.mode = .run) :
    exec (.resume []) s = .next (s.afterReply 0x22#8 [2#8]) := by
  refine (serve_eq_afterReply hh (by rfl) ?_ : execResume [] s = _)
  simp only [State.frameTaken_mode, hm]
  rfl

theorem resume_refused (hh : s.hears (.resume []) = true) (hm : s.mode.mode = .halted)
    (hw : s.pins.switches ≠ ⟨true, false⟩) : exec (.resume []) s = .next (s.afterReply 0x22#8 [13#8]) := by
  have shut : ¬s.frameTaken.openConfirmed = true := fun h => hw (State.openConfirmed_iff.mp h)
  refine (serve_eq_afterReply hh (by rfl) ?_ : execResume [] s = _)
  simp only [State.frameTaken_mode, hm, if_neg shut]
  rfl

theorem resume_runs (hh : s.hears (.resume []) = true) (hm : s.mode.mode = .halted)
    (hw : s.pins.switches = ⟨true, false⟩) :
    exec (.resume []) s = .next (((s.frameTaken.enterMode .run .none).modeEvent .halted .resumed
      (.halt s.mode.haltCause)).answer 0x22#8 [0#8]) := by
  have opened : s.frameTaken.openConfirmed = true := State.openConfirmed_iff.mpr hw
  refine (serve_eq_answer hh (by rfl) ?_ : execResume [] s = _)
  simp only [State.frameTaken_mode, hm, if_pos opened]
  rfl

end Resume

/-! ## The end of the prime (09 R157) -/

section Prime

/-- Whether the end of the prime judges a zone: an enabled lane reads it (09 R157). -/
def State.judgesZone (s : State) (z : Zone) : Prop :=
  ∃ l : Lane, s.settings.enabled l = true ∧ s.settings.line.zoneMap.lane l = z

theorem State.faulted_iff (s : State) (z : Zone) :
    ((Lane.all.any fun l => s.settings.enabled l && decide (s.settings.line.zoneMap.lane l = z)) &&
      decide ((s.zones.zone.zone z).health = .faulted)) = true ↔
    s.judgesZone z ∧ (s.zones.zone.zone z).health = .faulted := by
  simp [State.judgesZone, Lane.mem_all]

theorem State.faultedZone_eq_some {z : Zone} (hz : s.judgesZone z) (hf : (s.zones.zone.zone z).health = .faulted)
    (hfirst : ∀ y : Zone, y.number < z.number → s.judgesZone y → (s.zones.zone.zone y).health = .healthy) :
    s.faultedZone = some z := by
  refine Zone.find?_all ((s.faulted_iff z).mpr ⟨hz, hf⟩) fun y hy => Bool.eq_false_iff.mpr fun h => ?_
  obtain ⟨hjudged, hfaulted⟩ := (s.faulted_iff y).mp h
  cases (hfirst y hy hjudged).symm.trans hfaulted

theorem State.faultedZone_eq_none (h : ∀ z : Zone, s.judgesZone z → (s.zones.zone.zone z).health = .healthy) :
    s.faultedZone = none := by
  refine List.find?_eq_none.mpr fun z _ hz => ?_
  obtain ⟨hjudged, hfaulted⟩ := (s.faulted_iff z).mp hz
  cases (h z hjudged).symm.trans hfaulted

theorem State.judgePrime_of_faulted {z : Zone} (h : s.faultedZone = some z) :
    s.judgePrime = (s.enterMode .idle .none).modeEvent .starting .startFailed (.zone z) := by
  simp only [State.judgePrime, h]

theorem State.judgePrime_of_open (h : s.faultedZone = none) (hw : s.pins.switches = ⟨true, false⟩) :
    s.judgePrime = (s.enterMode .run .none).modeEvent .starting .started .none := by
  simp only [State.judgePrime, h, if_pos (State.openConfirmed_iff.mpr hw)]

theorem State.judgePrime_of_not_open (h : s.faultedZone = none) (hw : s.pins.switches ≠ ⟨true, false⟩) :
    s.judgePrime = (s.enterMode .idle .none).modeEvent .starting .startFailed .press := by
  simp only [State.judgePrime, h, if_neg (mt State.openConfirmed_iff.mp hw)]

/-- The prime is judged at the moment it is due. -/
theorem primeEnd_judges {d : Nat} (hp : s.phase = .running) (hm : s.mode.mode = .starting)
    (hd : s.mode.primeDue = some d) : exec .primeEnd s = .next (s.reach d).judgePrime := by
  have due : (s.running && s.starting) = true := by simp [State.running, hp, State.starting_iff.mpr hm]
  show execPrimeEnd s = _
  simp only [execPrimeEnd, hd, if_pos due]

end Prime

end Sys2Proof.Machine

namespace Sys2Proof.Proofs

open Sys2Proof.Machine

/-- Settles O25: START by the mode and, in IDLE, by its checks in order; RESUME by the mode and the switches. -/
theorem startAndResumeJudged : Obligations.StartAndResumeJudged := by
  constructor
  · intro s hh
    refine ⟨start_of_underway hh, start_of_halted hh,
      fun hm => ⟨fun hn => ?_, fun l hl hv hfirst => ?_, fun hn hv => ?_⟩⟩
    · exact start_of_idle hh hm (startIdle_no_lane hn)
    · exact start_of_idle hh hm (startIdle_invalid (s := s.frameTaken) (Settings.invalidLane_eq_some hl hv hfirst)
        (Settings.lanes_ne_of_enabled hl))
    · have valid : s.frameTaken.settings.invalidLane = none := Settings.invalidLane_eq_none hv
      exact ⟨fun hc => start_of_idle hh hm (startIdle_conflict valid hn hc),
        fun hc => start_of_idle hh hm (startIdle_starts valid hn hc)⟩
  · intro s hh
    exact ⟨resume_of_no_track hh, resume_of_run hh, fun hm => ⟨resume_runs hh hm, resume_refused hh hm⟩⟩

/-- Settles O26: the first FAULTED zone that is judged, then the switches. -/
theorem primeEndJudged : Obligations.PrimeEndJudged := by
  intro s d hp hm hd
  dsimp only
  rw [primeEnd_judges hp hm hd]
  refine ⟨fun z hz hf hfirst => ?_, fun hhealthy => ⟨fun hw => ?_, fun hw => ?_⟩⟩
  · rw [State.judgePrime_of_faulted (s := s.reach d) (State.faultedZone_eq_some (s := s.reach d) hz hf hfirst)]
    rfl
  · rw [State.judgePrime_of_open (s := s.reach d) (State.faultedZone_eq_none (s := s.reach d) hhealthy) hw]
    rfl
  · rw [State.judgePrime_of_not_open (s := s.reach d) (State.faultedZone_eq_none (s := s.reach d) hhealthy) hw]
    rfl

end Sys2Proof.Proofs
end

section
/-! # The supply, the RESET pin and the settings load (09 R162 to R164; 10 R185, R186) -/

namespace Sys2Proof.Machine

/-! ## What the start of a reset drops -/

theorem StoreUnit.broken_of_busy {k : StoreUnit} (h : k.busy = true) : k.broken = ⟨none, false, false⟩ := if_pos h

theorem StoreUnit.broken_of_not_busy {k : StoreUnit} (h : ¬k.busy = true) : k.broken = k := if_neg h

/-- What loss of power and the RESET pin leave of a part, from the start of the sequence on (09 R162 to R164). -/
def State.dropsTo (s t : State) : Prop :=
  t.press.pressClose = false ∧ t.press.stroke = none ∧ t.mode = ⟨.idle, .none, none, false⟩ ∧
  t.grade.lines = 0#2 ∧ t.discharge.flaps = Quad.const ⟨none, none⟩ ∧ t.discharge.sample = ⟨none, none⟩ ∧
  t.track.rows = s.track.rows.map (fun _ => Quad.const .unknown) ∧
  t.notices = ⟨[], false, 0#8, 0#12⟩ ∧ t.link.reply = .none ∧ t.link.window = none ∧
  (s.storing → t.store.stored = none ∧ t.store.valid = false ∧ t.store.busy = false) ∧
  (¬s.storing → t.store = s.store) ∧ t.settings = s.settings

/-- The serials, the counts and the count snapshot cleared (09 R162). -/
def State.countsCleared (t : State) : Prop :=
  t.track.nextSerial = 0#16 ∧ t.track.advances = 0#32 ∧ t.press.strokes = 0#32 ∧
  t.discharge.bank = zeroBank ∧ t.discharge.snapshot = none

namespace State

variable (s : State)

theorem dropsTo_assertReset : s.dropsTo s.assertReset := by
  have hstore : s.assertReset.store = s.store.broken := s.assertReset_settings.2
  refine ⟨rfl, rfl, rfl, rfl, rfl, rfl, rfl, rfl, rfl, rfl, fun hb => ?_, fun hb => ?_, s.assertReset_settings.1⟩
  · rw [hstore, StoreUnit.broken_of_busy hb]
    exact ⟨rfl, rfl, rfl⟩
  · rw [hstore, StoreUnit.broken_of_not_busy hb]

theorem dropsTo.clearCounts {t : State} (h : s.dropsTo t) : s.dropsTo t.clearCounts := h

theorem dropsTo_losePower : s.dropsTo s.losePower := dropsTo.clearCounts s s.dropsTo_assertReset

theorem countsCleared_losePower : s.losePower.countsCleared := ⟨rfl, rfl, rfl, rfl, rfl⟩

/-- The purge of a pin reset is counted (09 R163). -/
theorem assertReset_lane (l : Lane) :
    s.assertReset.discharge.bank.lanes.lane l =
      { s.discharge.bank.lanes.lane l with
        purged := satAdd (s.discharge.bank.lanes.lane l).purged (liveCount s.track.rows l) } :=
  countPurged_lane s.track.rows s.discharge.bank l

/-! ## The settings load (10 R185) -/

/-- What a settings load starts from: a power-on sequence clears what a pin reset keeps (09 R162, R163). -/
def loadStart (k : ResetKind) : State :=
  match k with
  | .powerOn => s.clearCounts
  | .pin => s

theorem loadStart_now (k : ResetKind) : (s.loadStart k).now = s.now := by cases k <;> rfl

theorem loadStart_pins (k : ResetKind) : (s.loadStart k).pins = s.pins := by cases k <;> rfl

/-- What the load of a stored copy, or of the defaults where it is bad, leaves of the state it starts from. -/
def loaded (copy : Option Settings) (a : BitVec 5) (r : BitVec 2) : State :=
  let st := copy.getD defaultSettings
  { s with
    phase := .running
    settings := st
    store := ⟨copy, copy.isSome, false⟩
    mode := idleMode
    track := { s.track with rows := unknownTrack st.line.pGate, window := wholeWindow st.line.pGate }
    zones := freshZones s.now
    press := { s.press with
      state := if openShown s.pins.switches then .opened else .releasing
      pressClose := false
      settleDue := none
      closeDue := none
      openDue := if openShown s.pins.switches then none else some (s.now + st.line.openTimeout)
      stroke := none
      closeTimeouts := 0 }
    rhythm := freshRhythm s.now
    grade := freshGrade st
    discharge := s.discharge.dropActions
    notices := if copy.isSome then emptyNotices else ⟨[(0#8, .store .lost)], false, 1#8, 0x080#12⟩
    link := ⟨.hunt, [], .none, none, strapAddress a, r⟩ }

/-- The defaults' mask lets the STORE LOST notice into the empty queue. -/
theorem push_storeLost : emptyNotices.push defaultSettings.noticeMask (.store .lost) =
    ⟨[(0#8, .store .lost)], false, 1#8, 0x080#12⟩ := by decide

theorem finishLoad_eq (k : ResetKind) (a : BitVec 5) (r : BitVec 2) :
    s.finishLoad k a r = (s.loadStart k).loaded s.store.stored a r := by
  have start : (if k = .powerOn then s.clearCounts else s) = s.loadStart k := by cases k <;> rfl
  unfold finishLoad
  rw [start]
  generalize s.loadStart k = u
  simp only [rebuildTrack, pressFromSwitches, openConfirmed, setSettings, setTrack, setMode, setNotices, setZones,
    setRhythm, setGrade, setDischarge, setPress, setLink, setStore, setPhase, raise]
  cases s.store.stored with
  | some st => rfl
  | none =>
    simp only [Option.isSome_none, Bool.false_eq_true, if_false, Option.getD_none, push_storeLost]
    rfl

theorem loaded_opened_iff (copy : Option Settings) (a : BitVec 5) (r : BitVec 2) :
    (s.loaded copy a r).press.state = .opened ↔ s.pins.switches = ⟨true, false⟩ := by
  have hstate : (s.loaded copy a r).press.state = if s.openConfirmed then .opened else .releasing := rfl
  rw [hstate, ← openConfirmed_iff]
  split <;> simp [*]

end State

variable {s : State}

theorem pinReset_asserts (hp : s.phase ≠ .off) : exec .pinReset s = .next (s.assertReset.setPhase .held) :=
  congrArg Host.Outcome.next (if_neg hp)

theorem resetRelease_loads (hp : s.phase = .held) : exec .resetRelease s = .next (s.setPhase (.loading .pin)) :=
  congrArg Host.Outcome.next (if_pos hp)

theorem settingsLoad_loads {k : ResetKind} (hp : s.phase = .loading k) (a : BitVec 5) (r : BitVec 2) :
    exec (.settingsLoad a r) s = .next ((s.loadStart k).loaded s.store.stored a r) := by
  rw [← State.finishLoad_eq]
  show execSettingsLoad a r s = _
  simp only [execSettingsLoad, hp]

end Sys2Proof.Machine

namespace Sys2Proof.Proofs

open Sys2Proof.Machine

/-- Settles O29: the three ways into a reset drop the same, the release begins the load, and the load leaves the one
state of `State.loaded`, from which each block is read off. -/
theorem resetSequences : Obligations.ResetSequences := by
  refine ⟨fun s => ?_, fun s => ?_, fun s hp => ?_, fun s hp => resetRelease_loads hp, fun s k a r hp => ?_⟩
  · exact ⟨s.losePower.setPhase (.loading .powerOn), rfl, s.dropsTo_losePower, s.countsCleared_losePower, rfl⟩
  · exact ⟨s.losePower, rfl, s.dropsTo_losePower, s.countsCleared_losePower, rfl⟩
  · exact ⟨s.assertReset.setPhase .held, pinReset_asserts hp, s.dropsTo_assertReset, rfl, rfl, rfl, rfl, rfl,
      s.assertReset_lane⟩
  · have opened := (s.loadStart k).loaded_opened_iff s.store.stored a r
    rw [s.loadStart_pins k] at opened
    refine ⟨_, settingsLoad_loads hp a r, rfl, rfl, rfl, rfl, rfl, congrArg freshZones (s.loadStart_now k),
      congrArg freshRhythm (s.loadStart_now k), rfl, rfl, rfl, rfl, rfl, rfl, rfl, rfl, rfl, rfl, opened, rfl, rfl,
      fun hcopy => if_pos hcopy, fun hcopy => ?_, ?_, ?_⟩
    · simp [State.loaded, hcopy]
    · rintro rfl
      exact ⟨rfl, rfl, rfl, rfl, rfl⟩
    · rintro rfl
      exact ⟨rfl, rfl, rfl, rfl, rfl⟩

end Sys2Proof.Proofs
end

section
/-! # The Notice Queue stays legal (10 R173)

An event appends a notice with the next number, drops it, or makes none; FETCH NOTICE takes the oldest. Every operation
of the part moves the queue by such events, or empties it. -/

namespace Sys2Proof.Machine

/-! ## A legal queue -/

/-- What `State.queueLegal` asks of the Notice Queue, which is all that it reads of the state. -/
def NoticeUnit.legal (q : NoticeUnit) : Prop :=
  q.queue.length ≤ 32 ∧
  ∀ i, ∀ n ∈ q.queue[i]?, n.1 + BitVec.ofNat 8 (q.queue.length - i) = q.nextNumber

theorem State.queueLegal_iff {s : State} : s.queueLegal ↔ s.notices.legal := Iff.rfl

theorem State.queueLegal.of_eq {s t : State} (h : s.queueLegal) (e : t.notices = s.notices) : t.queueLegal := by
  rw [State.queueLegal_iff, e]
  exact h

namespace NoticeUnit.legal

variable {q : NoticeUnit}

theorem empty : emptyNotices.legal := ⟨Nat.zero_le _, fun _ _ hn => nomatch hn⟩

theorem setFlag (h : q.legal) (f : EventFlag) : (q.setFlag f).legal := h

/-- A notice appended with the next number stands one before the number after it, as the others come to stand one
further. -/
theorem append (h : q.legal) (hlen : q.queue.length < 32) (n : Notice) :
    NoticeUnit.legal { q with queue := q.queue ++ [(q.nextNumber, n)], nextNumber := q.nextNumber + 1#8 } := by
  obtain ⟨-, hnumber⟩ := h
  have hcount : (q.queue ++ [(q.nextNumber, n)]).length = q.queue.length + 1 := List.length_append
  refine ⟨by rw [hcount]; exact hlen, fun i x hx => ?_⟩
  rw [hcount]
  rcases Nat.lt_trichotomy i q.queue.length with hi | rfl | hi
  · rw [List.getElem?_append_left hi] at hx
    rw [show q.queue.length + 1 - i = (q.queue.length - i) + 1 by omega, BitVec.ofNat_add, ← BitVec.add_assoc,
      hnumber i x hx]
  · rw [List.getElem?_concat_length] at hx
    cases hx
    rw [Nat.add_sub_cancel_left]
  · rw [List.getElem?_eq_none (by rw [hcount]; exact hi)] at hx
    cases hx

theorem push (h : q.legal) (mask : BitVec 8) (n : Notice) : (q.push mask n).legal := by
  rcases q.push_cases mask n with ⟨-, e⟩ | ⟨-, hlen, e⟩ | ⟨-, -, e⟩ <;> rw [e]
  · exact h
  · exact (h.setFlag n.flag).append hlen n
  · exact h

/-- The oldest notice taken, the others stand one place earlier in a queue one shorter. -/
theorem fetch {n : Byte × Notice} {rest : List (Byte × Notice)} (h : q.legal) (hq : q.queue = n :: rest) (b : Bool) :
    NoticeUnit.legal { q with queue := rest, overflow := b } := by
  obtain ⟨hlen, hnumber⟩ := h
  simp only [hq, List.length_cons] at hlen hnumber
  refine ⟨by simp only; omega, fun i x hx => ?_⟩
  simpa [Nat.add_sub_add_right] using hnumber (i + 1) x (by simpa using hx)

end NoticeUnit.legal

namespace State

variable {s : State}

theorem raise_queueLegal (h : s.queueLegal) (n : Notice) : (s.raise n).queueLegal :=
  NoticeUnit.legal.push h s.settings.noticeMask n

theorem setTrack_queueLegal (h : s.queueLegal) (x : TrackState) : (s.setTrack x).queueLegal := h

theorem onBank_queueLegal (h : s.queueLegal) (f : CounterBank → CounterBank) : (s.onBank f).queueLegal := h

/-- Operations taken in turn keep what each of them keeps. -/
theorem foldl_queueLegal {α : Type} {f : State → α → State} (hf : ∀ t x, t.queueLegal → (f t x).queueLegal)
    (xs : List α) (h : s.queueLegal) : (xs.foldl f s).queueLegal :=
  List.foldlRecOn (motive := State.queueLegal) xs f h fun t ht x _ => hf t x ht

/-! ## The Rhythm Monitor and the Grade Selector (06, 07) -/

theorem stallIfDue_queueLegal (h : s.queueLegal) : s.stallIfDue.queueLegal := by
  unfold stallIfDue
  split
  · exact raise_queueLegal (by exact h) _
  · exact h

theorem periodChange_queueLegal (h : s.queueLegal) : s.periodChange.queueLegal := by
  unfold periodChange
  refine stallIfDue_queueLegal ?_
  split
  case h_1 | h_2 => exact raise_queueLegal (by exact h) _
  all_goals exact h

theorem handGrade_queueLegal (h : s.queueLegal) (before : Grade) : (s.handGrade before).queueLegal := by
  unfold handGrade
  split
  · exact h
  · exact periodChange_queueLegal h

/-- A GRADE event and the change of advised grade handed on after it. -/
theorem gradeEvent_handGrade_queueLegal (h : s.queueLegal) (c : GradeCause) (r : RestoreSource) (b : GradeUnit)
    (before : Grade) : ((s.gradeEvent c r b).handGrade before).queueLegal :=
  handGrade_queueLegal (raise_queueLegal h _) before

theorem restore_queueLegal (h : s.queueLegal) (r : RestoreSource) : (s.restore r).queueLegal := by
  unfold restore
  dsimp only
  split
  · exact h
  · exact gradeEvent_handGrade_queueLegal (by exact h) _ _ _ _

theorem recomputeRestoring_queueLegal (h : s.queueLegal) (r : RestoreSource) :
    (s.recomputeRestoring r).queueLegal := by
  unfold recomputeRestoring
  dsimp only
  split
  · exact h
  · exact restore_queueLegal (by exact h) r

theorem advertise_queueLegal (h : s.queueLegal) (mask : GradeSet) : (s.advertise mask).queueLegal := by
  have restored (g : GradeUnit) : ((s.setGrade g).recomputeRestoring .advertise).queueLegal :=
    recomputeRestoring_queueLegal (by exact h) .advertise
  unfold advertise conflictEvent
  dsimp only
  split
  · exact raise_queueLegal (by exact restored _) _
  · exact restored _

theorem restoreIdleIfDue_queueLegal (h : s.queueLegal) : s.restoreIdleIfDue.queueLegal := by
  unfold restoreIdleIfDue
  split
  · split
    · exact restore_queueLegal (by exact h) .idle
    · exact h
  · exact h

theorem installSettings_queueLegal (h : s.queueLegal) (st : Settings) : (s.installSettings st).queueLegal := by
  refine restoreIdleIfDue_queueLegal ?_
  split
  · exact h
  · exact periodChange_queueLegal (by exact h)

theorem writeRecipe_queueLegal (h : s.queueLegal) (n : Fin 16) (r : Recipe) : (s.writeRecipe n r).queueLegal := by
  unfold writeRecipe
  dsimp only
  split
  · exact handGrade_queueLegal (by exact h) _
  · exact h

theorem takeOutcome_queueLegal (h : s.queueLegal) (o : StrokeOutcome) : (s.takeOutcome o).queueLegal := by
  cases o with
  | failing =>
    unfold takeOutcome failingOutcome
    dsimp only
    split
    · split
      · exact gradeEvent_handGrade_queueLegal (by exact h) _ _ _ _
      · exact raise_queueLegal (by exact h) _
    · exact h
  | clean =>
    unfold takeOutcome cleanOutcome
    dsimp only
    split
    · split
      · exact gradeEvent_handGrade_queueLegal (by exact h) _ _ _ _
      · exact h
    · exact h
  | neither => exact h

/-! ## The stroke and the press (05) -/

theorem finishStroke_queueLegal (h : s.queueLegal) (x : StrokeContext) (c : EndCause) :
    (s.finishStroke x c).queueLegal := by
  have written : (x.lanes.foldl (finishLane x c) (s, Quad.const none)).1.queueLegal := by
    rw [finishLanes_frame]
    exact h
  unfold finishStroke handOutcome
  refine takeOutcome_queueLegal ?_ _
  split <;> exact raise_queueLegal written _

theorem terminate_queueLegal (h : s.queueLegal) (c : EndCause) : (s.terminate c).queueLegal := by
  have released (t : State) (ht : t.queueLegal) : t.releasePress.queueLegal :=
    ht.of_eq (by simp only [releasePress_frame])
  unfold terminate
  dsimp only
  split
  · exact released _ (finishStroke_queueLegal (by exact h) _ _)
  · exact released _ h

theorem terminateAny_queueLegal (h : s.queueLegal) (c : EndCause) : (s.terminateAny c).queueLegal := by
  unfold terminateAny
  split
  · exact terminate_queueLegal h c
  · exact h

theorem haltRequest_queueLegal (h : s.queueLegal) (c : HaltCause) : (s.haltRequest c).queueLegal := by
  unfold haltRequest
  split
  · exact raise_queueLegal (by exact terminateAny_queueLegal h .stop) _
  · exact h

theorem pressIndex_queueLegal (h : s.queueLegal) : s.pressIndex.queueLegal := by
  unfold pressIndex
  split
  · split <;> exact h
  · exact haltRequest_queueLegal (by exact h) _
  · exact haltRequest_queueLegal (terminate_queueLegal h _) _
  · exact haltRequest_queueLegal (terminate_queueLegal h _) _
  · exact haltRequest_queueLegal h _
  · exact haltRequest_queueLegal h _

theorem closeTimedOut_queueLegal (h : s.queueLegal) : s.closeTimedOut.queueLegal := by
  unfold closeTimedOut
  dsimp only
  split
  · exact haltRequest_queueLegal (by exact terminate_queueLegal h _) _
  · exact terminate_queueLegal h _

theorem beginStroke_queueLegal (h : s.queueLegal) : s.beginStroke.queueLegal := by
  have written (t : State) (ns : List Serial) (ht : t.queueLegal) : (ns.foldl writePressing t).queueLegal :=
    foldl_queueLegal (fun u n hu => hu.of_eq (by simp only [writePressing_frame])) ns ht
  unfold beginStroke enterDwell
  dsimp only
  split <;> exact written _ _ (by exact h)

theorem strokeTick_queueLegal (h : s.queueLegal) (codes : Quad (BitVec 12)) (px : BitVec 10) :
    (s.strokeTick codes px).queueLegal := by
  unfold strokeTick testSample
  dsimp only
  repeat' split
  case h_1.isTrue.isTrue => exact terminate_queueLegal (by exact h) .complete
  case h_1.isTrue.isFalse.isTrue => exact terminate_queueLegal (by exact h) .dwellLimit
  all_goals exact h

theorem warnShows_queueLegal (h : s.queueLegal) (level : Bool) : (s.warnShows level).queueLegal := by
  unfold warnShows warnPress
  dsimp only
  split
  · split
    · split
      case h_2 | h_3 => exact terminate_queueLegal (by exact h) .warning
      all_goals exact h
    · exact h
  · exact h

theorem switchesShow_queueLegal (h : s.queueLegal) (w : Switches) : (s.switchesShow w).queueLegal := by
  unfold switchesShow
  dsimp only
  (repeat' split) <;> exact h

theorem sampleZones_queueLegal (h : s.queueLegal) (codes : Quad (BitVec 12)) (px : BitVec 10) :
    (s.sampleZones codes px).queueLegal :=
  foldl_queueLegal (fun _ n ht => raise_queueLegal ht n) _ (by exact h)

/-! ## The index (02 R30 to R38, 06 R105) -/

theorem indexAcquiring_queueLegal (h : s.queueLegal) (j : Judgement) (n : Nat) :
    (s.indexAcquiring j n).queueLegal := by
  unfold indexAcquiring
  repeat' split
  case isTrue.isTrue => exact raise_queueLegal (by exact h) _
  all_goals exact h

theorem indexLocked_queueLegal (h : s.queueLegal) (j : Judgement) (n : Nat) : (s.indexLocked j n).queueLegal := by
  unfold indexLocked
  split
  · exact h
  · exact raise_queueLegal (by exact h) _

theorem indexSlipping_queueLegal (h : s.queueLegal) (j : Judgement) (n : Nat) :
    (s.indexSlipping j n).queueLegal := by
  unfold indexSlipping
  split
  · exact raise_queueLegal (by exact h) _
  · split
    · exact raise_queueLegal (by exact h) _
    · exact h

theorem edgeJudged_queueLegal (h : s.queueLegal) : s.judgeEdge.restartStall.queueLegal := by
  have judged : s.judgeEdge.queueLegal := by
    unfold judgeEdge
    dsimp only
    split
    · exact raise_queueLegal (by exact h) _
    · exact indexAcquiring_queueLegal (by exact h) _ _
    · exact indexLocked_queueLegal (by exact h) _ _
    · exact indexSlipping_queueLegal (by exact h) _ _
  exact judged

theorem markAt_queueLegal (h : s.queueLegal) (q : Nat) (l : Lane) (k : MarkKind) (f : CardRecord → Bool) (d : Bool) :
    (s.markAt q l k f d).queueLegal := by
  unfold markAt
  split
  · split
    · dsimp only
      split
      · exact raise_queueLegal (by exact h) _
      · exact h
    · exact h
  · exact h

theorem deadlinesAt_queueLegal (h : s.queueLegal) (q : Nat) (l : Lane) : (s.deadlinesAt q l).queueLegal := by
  have mayMark (b : Prop) [Decidable b] (t : State) (k : MarkKind) (f : CardRecord → Bool) (ht : t.queueLegal) :
      (if b then t.markAt q l k f true else t).queueLegal := by
    split
    · exact markAt_queueLegal ht q l k f true
    · exact ht
  exact mayMark _ _ _ _ (mayMark _ _ _ _ (mayMark _ _ _ _ h))

theorem advance_queueLegal (h : s.queueLegal) : s.advance.queueLegal := by
  have discharged (r : Row) : (s.dischargeRow r).queueLegal := by
    rw [dischargeRow_eq]
    exact h
  have missing (t : State) (ht : t.queueLegal) : t.missingMarks.queueLegal :=
    foldl_queueLegal (fun _ q hu => foldl_queueLegal (fun _ l hv => deadlinesAt_queueLegal hv q l) _ hu) _ ht
  have notSealed (t : State) (ht : t.queueLegal) : t.notSealedMarks.queueLegal :=
    foldl_queueLegal (fun _ l hu => markAt_queueLegal hu _ l _ _ _) _ ht
  unfold advance
  dsimp only
  refine raise_queueLegal (onBank_queueLegal (setTrack_queueLegal (notSealed _ (missing _ ?_)) _) _) _
  exact setTrack_queueLegal (discharged _) _

theorem trackIndex_queueLegal (h : s.queueLegal) : s.trackIndex.queueLegal := by
  unfold trackIndex
  split
  · exact advance_queueLegal h
  · exact h

/-- Either order of the two blocks leaves a legal queue (assumption 5). -/
theorem handIndex_queueLegal (h : s.queueLegal) : s.handIndex.queueLegal := by
  have trackFirst : s.trackIndex.pressIndex.queueLegal := pressIndex_queueLegal (trackIndex_queueLegal h)
  have pressFirst : s.pressIndex.trackIndex.queueLegal := trackIndex_queueLegal (pressIndex_queueLegal h)
  unfold handIndex
  dsimp only
  split
  · exact trackFirst
  · show NoticeUnit.legal (if _ then _ else _)
    split
    · exact pressFirst
    · exact trackFirst

theorem indexEdge_queueLegal (h : s.queueLegal) : s.indexEdge.queueLegal := by
  unfold indexEdge
  split
  · exact handIndex_queueLegal (edgeJudged_queueLegal h)
  · exact h

/-! ## The mode requests, the prime and the resets (09) -/

theorem judgePrime_queueLegal (h : s.queueLegal) : s.judgePrime.queueLegal := by
  unfold judgePrime
  split
  · exact raise_queueLegal (by exact h) _
  · split <;> exact raise_queueLegal (by exact h) _

theorem stopLine_queueLegal (h : s.queueLegal) : s.stopLine.queueLegal :=
  raise_queueLegal (by exact restore_queueLegal (by exact terminateAny_queueLegal h .stop) .stop) _

theorem stopPrime_queueLegal (h : s.queueLegal) : s.stopPrime.queueLegal :=
  raise_queueLegal (restore_queueLegal (by exact h) .stop) _

theorem startIdle_queueLegal (h : s.queueLegal) : (startIdle s).1.queueLegal := by
  unfold startIdle
  (repeat' split) <;> exact h

theorem finishLoad_queueLegal (s : State) (k : ResetKind) (a : BitVec 5) (r : BitVec 2) :
    (s.finishLoad k a r).queueLegal := by
  unfold finishLoad
  dsimp only
  split
  · exact NoticeUnit.legal.empty
  · exact raise_queueLegal (by exact NoticeUnit.legal.empty) _

end State

/-! ## Commands -/

theorem takeTrackRequest_queueLegal {r : TrackRequest} {s t : State} (hs : s.queueLegal)
    (h : takeTrackRequest r s = .next t) : t.queueLegal := by
  obtain ⟨u, hu, e, -⟩ := takeTrackRequest_frame r s
  cases hu.symm.trans h
  exact hs.of_eq (congrArg State.notices e :)

theorem execIndexEvent_queueLegal {edge : IndexEdge} {s t : State} (hs : s.queueLegal)
    (h : execIndexEvent edge s = .next t) : t.queueLegal := by
  have hs' : (s.elapse edge.after).queueLegal := hs
  unfold execIndexEvent at h
  dsimp only at h
  split at h
  · cases h
    exact State.indexEdge_queueLegal hs'
  · next r _ =>
    split at h
    · obtain ⟨u, hu, -⟩ := takeTrackRequest_frame r (s.elapse edge.after).judgeEdge.restartStall.trackIndex
      rw [hu] at h
      cases h
      exact State.pressIndex_queueLegal
        (takeTrackRequest_queueLegal (State.trackIndex_queueLegal (State.edgeJudged_queueLegal hs')) hu)
    · exact takeTrackRequest_queueLegal hs' h

/-- Every request keeps the queue legal. -/
theorem exec_request_queueLegal {i : Instr} {parts : Dest × Byte × List Byte} {s t : State}
    (hi : requestParts i = some parts) (hs : s.queueLegal) (h : exec i s = .next t) : t.queueLegal := by
  have keep := @serve_keeps State.queueLegal fun _ _ hu => hu
  have keepTo := @serveTo_keeps State.queueLegal fun _ _ hu => hu
  have taken : s.frameTaken.queueLegal := hs
  cases i with
  | identify | status | clearFlags | setNoticeMask | readLine | readRecipe | readRule | setWindow | nextChunk | abort
  | setReturnSize | readCounts | clearCounts | storeSettings =>
    dsimp only [exec, execIdentify, execStatus, execClearFlags, execSetNoticeMask, execReadLine, execReadRecipe,
      execReadRule, execSetWindow, execNextChunk, execAbort, execSetReturnSize, execReadCounts, execClearCounts,
      execStoreSettings] at h
    refine keep hs ?_ h
    repeat' split
    all_goals exact hs
  | fetchNotice p =>
    refine keep hs ?_ (show execFetchNotice p s = .next t from h)
    dsimp only
    split
    · exact hs
    · next hq => exact NoticeUnit.legal.fetch hs hq false
  | configureLine p =>
    refine keep hs ?_ (show execConfigureLine p s = .next t from h)
    rcases configureLineRule_cases p s.frameTaken with e | ⟨-, e⟩ <;> rw [e]
    · exact hs
    · exact State.installSettings_queueLegal taken _
  | writeRecipe p =>
    refine keep hs ?_ (show execWriteRecipe p s = .next t from h)
    rcases writeRecipeRule_cases p s.frameTaken with e | ⟨-, n, e⟩ <;> rw [e]
    · exact hs
    · exact State.writeRecipe_queueLegal taken n _
  | assignRecipe p =>
    refine keep hs ?_ (show execAssignRecipe p s = .next t from h)
    unfold assignRecipeRule
    split
    · iterate 4
        split
        · exact hs
      exact State.recomputeRestoring_queueLegal (by exact taken) .assign
    all_goals exact hs
  | writeRule p =>
    refine keep hs ?_ (show execWriteRule p s = .next t from h)
    unfold writeRuleRule
    repeat' split
    all_goals exact hs
  | recallSettings p =>
    refine keep hs ?_ (show execRecallSettings p s = .next t from h)
    iterate 3
      split
      · exact hs
    split
    · exact hs
    · exact State.installSettings_queueLegal taken _
  | advertiseGrades p =>
    refine keep hs ?_ (show execAdvertiseGrades p s = .next t from h)
    iterate 2
      split
      · exact hs
    exact State.advertise_queueLegal taken _
  | restoreGrade p =>
    refine keep hs ?_ (show execRestoreGrade p s = .next t from h)
    split
    · exact hs
    · exact State.restore_queueLegal taken .request
  | start p =>
    refine keep hs ?_ (show execStart p s = .next t from h)
    split
    next => exact State.startIdle_queueLegal taken
    all_goals exact hs
  | stop dest p =>
    refine keepTo hs ?_ (show execStop dest p s = .next t from h)
    split
    · exact hs
    · exact State.stopPrime_queueLegal taken
    · exact State.stopLine_queueLegal taken
    · exact State.stopLine_queueLegal taken
  | resume p =>
    refine keep hs ?_ (show execResume p s = .next t from h)
    repeat' split
    case h_4.isTrue => exact State.raise_queueLegal (by exact taken) _
    all_goals exact hs
  | softReset dest p =>
    refine keepTo hs ?_ (show execSoftReset dest p s = .next t from h)
    iterate 2
      split
      · exact hs
    exact NoticeUnit.legal.empty
  | latchCounts dest p =>
    refine keepTo hs ?_ (show execLatchCounts dest p s = .next t from h)
    repeat' split
    all_goals exact hs
  | reportFill p => exact takeTrackRequest_queueLegal (r := .reportFill p) hs h
  | reportPlace p => exact takeTrackRequest_queueLegal (r := .reportPlace p) hs h
  | reportVision p => exact takeTrackRequest_queueLegal (r := .reportVision p) hs h
  | lookup p => exact takeTrackRequest_queueLegal (r := .lookup p) hs h
  | markCard p => exact takeTrackRequest_queueLegal (r := .markCard p) hs h
  | markWindow p => exact takeTrackRequest_queueLegal (r := .markWindow p) hs h
  | readWindow p => exact takeTrackRequest_queueLegal (r := .readWindow p) hs h
  | _ => cases hi

/-- Every command keeps the queue legal. -/
theorem exec_queueLegal {i : Instr} {s t : State} (hs : s.queueLegal) (h : exec i s = .next t) : t.queueLegal := by
  cases hreq : requestParts i with
  | some parts => exact exec_request_queueLegal hreq hs h
  | none =>
    cases i with
    | indexEvent edge => exact execIndexEvent_queueLegal hs h
    | warnEdge after level =>
      cases h
      exact State.warnShows_queueLegal (by exact hs) level
    | closedConfirmation after sw | openConfirmation after sw =>
      cases h
      exact State.switchesShow_queueLegal (by exact hs) sw
    | settleExpiry =>
      cases h
      dsimp only
      repeat' split
      case h_1.isTrue.isTrue => exact State.beginStroke_queueLegal (by exact hs)
      all_goals exact hs
    | closeTimeout =>
      cases h
      repeat' split
      case h_1.isTrue => exact State.closeTimedOut_queueLegal (by exact hs)
      all_goals exact hs
    | openTimeout =>
      cases h
      dsimp only
      repeat' split
      case h_1.isTrue => exact State.haltRequest_queueLegal (by exact hs) _
      all_goals exact hs
    | samplingTick codes px =>
      cases h
      split
      · exact State.strokeTick_queueLegal (State.sampleZones_queueLegal (by exact hs) codes px) codes px
      · exact hs
    | predictedDeadline =>
      cases h
      repeat' split
      case h_1.isTrue => exact State.terminateAny_queueLegal (by exact hs) .predicted
      all_goals exact hs
    | stall | storeComplete =>
      cases h
      split
      · exact State.raise_queueLegal (by exact hs) _
      · exact hs
    | restoreIdleSignal =>
      cases h
      repeat' split
      case h_1.isTrue => exact State.restore_queueLegal (by exact hs) .idle
      all_goals exact hs
    | primeEnd =>
      cases h
      repeat' split
      case h_1.isTrue => exact State.judgePrime_queueLegal (by exact hs)
      all_goals exact hs
    | powerOn | powerLoss =>
      cases h
      exact NoticeUnit.legal.empty
    | pinReset =>
      cases h
      split
      · exact hs
      · exact NoticeUnit.legal.empty
    | settingsLoad address rate =>
      cases h
      split
      · exact s.finishLoad_queueLegal _ address rate
      all_goals exact hs
    | unknownKind | frameCrcDiscard | foreignFrame | broadcastIgnored | frameOverrunDiscard | lineIdleArmed
    | frameGapTimeout | linkByteReceived | replyAbandoned | replySent | replyBegin | flapDue | flapPulseEnd
    | resetRelease =>
      cases h
      repeat' split
      all_goals exact hs
    | _ => cases hreq

end Sys2Proof.Machine

namespace Sys2Proof.Proofs

open Sys2Proof.Machine

/-- Settles O59: a step runs a command on the queue's rest, or moves the clock alone. -/
theorem queueStaysLegal : Obligations.QueueStaysLegal := by
  intro s t hs h
  unfold step at h
  split at h
  · next i rest _ => exact exec_queueLegal (s := s.setPending rest) hs h
  · cases h
    exact hs

end Sys2Proof.Proofs
end

section
/-! # Frames: what a complete frame is judged to be, and how the receiver takes it (10 R167 to R170; 11 R187) -/

namespace Sys2Proof.Machine

/-! ## The judgement of a frame (10 R168 to R170) -/

/-- The check value of chapter 10's CRC, by the register after each of the nine digits. -/
theorem crc16_nine_digits :
    crc16 [0x31#8, 0x32#8, 0x33#8, 0x34#8, 0x35#8, 0x36#8, 0x37#8, 0x38#8, 0x39#8] = 0x29B1#16 := by
  have digit1 : crcByte 0xFFFF#16 0x31#8 = 0xC782#16 := by decide
  have digit2 : crcByte 0xC782#16 0x32#8 = 0x3DBA#16 := by decide
  have digit3 : crcByte 0x3DBA#16 0x33#8 = 0x5BCE#16 := by decide
  have digit4 : crcByte 0x5BCE#16 0x34#8 = 0x5349#16 := by decide
  have digit5 : crcByte 0x5349#16 0x35#8 = 0x4560#16 := by decide
  have digit6 : crcByte 0x4560#16 0x36#8 = 0x2EF4#16 := by decide
  have digit7 : crcByte 0x2EF4#16 0x37#8 = 0x7718#16 := by decide
  have digit8 : crcByte 0x7718#16 0x38#8 = 0xA12B#16 := by decide
  have digit9 : crcByte 0xA12B#16 0x39#8 = 0x29B1#16 := by decide
  simp only [crc16, List.foldl_cons, List.foldl_nil, digit1, digit2, digit3, digit4, digit5, digit6, digit7, digit8,
    digit9]

section Judgement

variable {own address kind : Byte} {p : List Byte}

/-- The bytes that the CRC of a frame is taken over (11 section 11.1). -/
def frameBody (address kind : Byte) (p : List Byte) : List Byte := address :: kind :: byte p.length :: p

theorem frameBytes_eq (address kind : Byte) (p : List Byte) :
    frameBytes address kind p =
      0xA5#8 :: address :: kind :: byte p.length :: (p ++ be16 (crc16 (frameBody address kind p)).toNat) := rfl

/-- Once its check agrees, a frame is judged by its address (10 R169, R170). -/
def judgeAddress (own address kind : Byte) (p : List Byte) : Instr :=
  if address = own then dispatchFrame kind p
  else if address = 0#8 then broadcastFrame kind p
  else .foreignFrame

/-- The check of a frame comes before all else (10 R168). -/
theorem judgeFrame_checked (own address kind : Byte) (c : BitVec 16) (hp : p.length ≤ 250) :
    judgeFrame own (0xA5#8 :: address :: kind :: byte p.length :: (p ++ be16 c.toNat)) =
      if c = crc16 (frameBody address kind p) then judgeAddress own address kind p else .frameCrcDiscard := by
  have hlen : (byte p.length).toNat = p.length := toNat_byte (by omega)
  simp only [judgeFrame, hlen, List.take_left, List.drop_left, beNat_be16 c.isLt, BitVec.toNat_inj]
  rfl

theorem judgeFrame_frameBytes (own address kind : Byte) (hp : p.length ≤ 250) :
    judgeFrame own (frameBytes address kind p) = judgeAddress own address kind p := by
  rw [frameBytes_eq, judgeFrame_checked own address kind _ hp, if_pos rfl]

theorem judgeAddress_foreign (ha : address ≠ own) (h0 : address ≠ 0#8) :
    judgeAddress own address kind p = .foreignFrame := by
  rw [judgeAddress, if_neg ha, if_neg h0]

theorem judgeAddress_own : judgeAddress own own kind p = dispatchFrame kind p := if_pos rfl

theorem judgeAddress_broadcast (ho : own ≠ 0#8) : judgeAddress own 0#8 kind p = broadcastFrame kind p := by
  rw [judgeAddress, if_neg ho.symm, if_pos rfl]

theorem dispatchFrame_unknown (h : requestOf .unicast kind p = none) : dispatchFrame kind p = .unknownKind kind := by
  rw [dispatchFrame, h, Option.getD_none]

theorem broadcastKind_iff : broadcastKind kind = true ↔ kind = 0x21#8 ∨ kind = 0x23#8 ∨ kind = 0x50#8 := by
  simp [broadcastKind, or_assoc]

theorem broadcastFrame_ignored (h : ¬(broadcastKind kind && fitsKind kind p) = true) :
    broadcastFrame kind p = .broadcastIgnored := if_neg h

end Judgement

/-! ## A request's own frame -/

section Request

variable {i : Instr} {own kind : Byte} {dest : Dest} {p : List Byte}

theorem Instr.wellFormed_eq (h : requestParts i = some (dest, kind, p)) :
    i.wellFormed = wellFormedRequest dest kind p := by
  cases i <;> cases h <;> rfl

/-- A frame of a request is the bytes its parts give, from a payload a frame can hold; a broadcast is one that the
part takes. -/
theorem encodeRequest_cases {f : List Byte} (hi : i.wellFormed = true) (hf : encodeRequest own i = some f) :
    ∃ dest kind p, requestParts i = some (dest, kind, p) ∧ p.length ≤ 250 ∧
      (dest = .broadcast → (broadcastKind kind && fitsKind kind p) = true) ∧
      f = frameBytes (if dest = .unicast then own else 0#8) kind p := by
  unfold encodeRequest at hf
  split at hf
  case h_1 kind p hparts =>
    cases hf
    rw [Instr.wellFormed_eq hparts, wellFormedRequest, Bool.and_eq_true, decide_eq_true_iff] at hi
    exact ⟨.unicast, kind, p, hparts, hi.1, nofun, rfl⟩
  case h_2 kind p hparts =>
    cases hf
    rw [Instr.wellFormed_eq hparts, wellFormedRequest, Bool.and_eq_true, decide_eq_true_iff] at hi
    exact ⟨.broadcast, kind, p, hparts, hi.1, fun _ => hi.2, rfl⟩
  case h_3 => cases hf

theorem judgeAddress_request (ho : own ≠ 0#8) (hparts : requestParts i = some (dest, kind, p))
    (hb : dest = .broadcast → (broadcastKind kind && fitsKind kind p) = true) :
    judgeAddress own (if dest = .unicast then own else 0#8) kind p = i := by
  have spelled := requestOf_of_requestParts hparts
  cases dest with
  | unicast =>
    rw [if_pos rfl, judgeAddress_own, dispatchFrame, spelled]
    rfl
  | broadcast =>
    rw [if_neg (by decide), judgeAddress_broadcast ho, broadcastFrame, if_pos (hb rfl), spelled]
    rfl

end Request

/-! ## One byte at the receiver (10 R167, R168, R172) -/

section OneByte

variable {k : LinkUnit} {b : Byte}

theorem overruns_iff {buf : List Byte} :
    overruns buf b = true ↔ frameComplete buf = true ∨ (buf.length = 3 ∧ 250 < b.toNat) := by
  simp [overruns]

theorem LinkUnit.take_of_hunt (hk : k.receiver = .hunt) : k.take b = { k with reply := .none } := by
  simp [LinkUnit.take, hk]

theorem LinkUnit.take_start (hk : k.receiver = .armed) :
    k.take 0xA5#8 = { k with receiver := .frame, buffer := [0xA5#8], reply := .none } := by
  simp [LinkUnit.take, hk]

theorem LinkUnit.take_no_start (hk : k.receiver = .armed) (hb : b ≠ 0xA5#8) :
    k.take b = { k with receiver := .hunt, buffer := [], reply := .none } := by
  simp [LinkUnit.take, hk, hb, LinkUnit.toHunt]

theorem LinkUnit.take_overruns (hk : k.receiver = .frame) (hb : overruns k.buffer b = true) :
    k.take b = { k with receiver := .hunt, buffer := [], reply := .none } := by
  simp [LinkUnit.take, hk, hb, LinkUnit.toHunt]

theorem LinkUnit.take_joins (hk : k.receiver = .frame) (hb : overruns k.buffer b = false) :
    k.take b = { k with buffer := k.buffer ++ [b], reply := .none } := by
  simp [LinkUnit.take, hk, hb]

end OneByte

/-! ## Reception byte by byte (10 R167, R168) -/

section Reception

variable {address kind : Byte} {p : List Byte}

theorem frameComplete_frameBytes (address kind : Byte) (hp : p.length ≤ 250) :
    frameComplete (frameBytes address kind p) = true := by
  have hlen : (byte p.length).toNat = p.length := toNat_byte (by omega)
  simp [frameBytes_eq, frameComplete, hlen, be16]

/-- No byte of a frame makes it too long or follows it whole. -/
theorem overruns_eq_false_of_split {buf rest : List Byte} {b : Byte} (hp : p.length ≤ 250)
    (h : buf ++ b :: rest = frameBytes address kind p) : overruns buf b = false := by
  have hlen : (byte p.length).toNat = p.length := toNat_byte (by omega)
  rw [frameBytes_eq] at h
  match buf with
  | [] | [_] | [_, _] => rfl
  | [_, _, _] =>
    simp only [List.cons_append, List.nil_append, List.cons.injEq] at h
    obtain ⟨-, -, -, rfl, -⟩ := h
    simp [overruns, frameComplete, hlen, hp]
  | _ :: _ :: _ :: _ :: more =>
    simp only [List.cons_append, List.cons.injEq] at h
    obtain ⟨-, -, -, rfl, htail⟩ := h
    have hcount := congrArg List.length htail
    simp only [List.length_append, List.length_cons, be16, List.length_nil] at hcount
    simp only [overruns, frameComplete, hlen, List.length_cons, Bool.or_eq_false_iff, decide_eq_false_iff_not,
      Bool.and_eq_false_iff]
    exact ⟨by omega, .inl (by omega)⟩

/-- A receiver amid a frame takes the rest of it. -/
theorem LinkUnit.foldl_take_frame (hp : p.length ≤ 250) :
    ∀ (rest : List Byte) (k : LinkUnit), k.receiver = .frame → k.buffer ++ rest = frameBytes address kind p →
      (rest.foldl LinkUnit.take k).receiver = .frame ∧
      (rest.foldl LinkUnit.take k).buffer = frameBytes address kind p := by
  intro rest
  induction rest with
  | nil =>
    intro k hk h
    exact ⟨hk, by rw [← h, List.append_nil]; rfl⟩
  | cons b rest ih =>
    intro k hk h
    rw [List.foldl_cons, LinkUnit.take_joins hk (overruns_eq_false_of_split hp h)]
    exact ih _ hk (by simpa using h)

/-- An armed receiver takes a frame whole. -/
theorem LinkUnit.foldl_take_armed {k : LinkUnit} (hp : p.length ≤ 250) (hk : k.receiver = .armed) :
    ((frameBytes address kind p).foldl LinkUnit.take k).receiver = .frame ∧
    ((frameBytes address kind p).foldl LinkUnit.take k).buffer = frameBytes address kind p := by
  rw [frameBytes_eq, List.foldl_cons, LinkUnit.take_start hk, ← frameBytes_eq]
  exact LinkUnit.foldl_take_frame hp _ _ rfl rfl

end Reception

end Sys2Proof.Machine

namespace Sys2Proof.Proofs

open Sys2Proof.Machine

/-- Settles O3: the parts of the request spell it again, and no byte of its frame overruns the buffer. -/
theorem requestFramesDecode : Obligations.RequestFramesDecode := by
  intro own i f hlow _ hi hf
  have ho : own ≠ 0#8 := by
    rintro rfl
    exact absurd hlow (by decide)
  obtain ⟨dest, kind, p, hparts, hp, hb, rfl⟩ := encodeRequest_cases hi hf
  refine ⟨?_, frameComplete_frameBytes _ kind hp, fun k hk _ => LinkUnit.foldl_take_armed hp hk⟩
  rw [judgeFrame_frameBytes own _ kind hp, judgeAddress_request ho hparts hb]

/-- Settles O4: the check is judged first, then the address, then the kind and the length. -/
theorem framesJudgedByAddress : Obligations.FramesJudgedByAddress := by
  refine ⟨crc16_nine_digits, fun own address kind p ho hp =>
    ⟨fun ha h0 => ?_, fun hkind => ?_, fun h => ?_, fun c hc => ?_⟩⟩
  · rw [judgeFrame_frameBytes own address kind hp, judgeAddress_foreign ha h0]
  · rw [judgeFrame_frameBytes own own kind hp, judgeAddress_own, dispatchFrame_unknown hkind]
  · rw [judgeFrame_frameBytes own 0#8 kind hp, judgeAddress_broadcast ho, broadcastFrame_ignored]
    rw [Bool.and_eq_true, broadcastKind_iff]
    rintro ⟨hkind, hfits⟩
    rcases h with ⟨h21, h23, h50⟩ | hlen
    · rcases hkind with e | e | e
      · exact h21 e
      · exact h23 e
      · exact h50 e
    · rw [hfits] at hlen
      cases hlen
  · rw [judgeFrame_checked own address kind c hp]
    exact if_neg hc

end Sys2Proof.Proofs
end

section
/-! # The receiver and the reply as commands (10 R167 to R172) -/

namespace Sys2Proof.Machine

variable {s : State}

/-! ## What the Link Port hears -/

theorem LinkUnit.driving_eq_false {k : LinkUnit} (h : ∀ r, k.reply ≠ .sending r) : k.driving = false := by
  unfold LinkUnit.driving
  split
  · next r hr => exact absurd hr (h r)
  all_goals rfl

theorem LinkUnit.driving_of_sending {k : LinkUnit} {r : Reply} (h : k.reply = .sending r) : k.driving = true := by
  simp only [LinkUnit.driving, h]

theorem State.receiving_eq_true (hp : s.phase = .running) (hr : ∀ r, s.link.reply ≠ .sending r) :
    s.receiving = true := by
  simp [State.receiving, State.running, hp, LinkUnit.driving_eq_false hr]

theorem State.receiving_of_sending {r : Reply} (h : s.link.reply = .sending r) : s.receiving = false := by
  simp [State.receiving, LinkUnit.driving_of_sending h]

/-- In HUNT and amid an incomplete frame no frame is heard (10 R167). -/
theorem State.hears_eq_false_of_receiver
    (h : s.link.receiver = .hunt ∨ (s.link.receiver = .frame ∧ frameComplete s.link.buffer = false)) (i : Instr) :
    s.hears i = false := by
  refine Bool.eq_false_iff.mpr fun hh => ?_
  rcases State.hears_receiver hh with harmed | ⟨hframe, hcomplete⟩ <;> rcases h with hhunt | ⟨hframe', hpart⟩
  · cases harmed.symm.trans hhunt
  · cases harmed.symm.trans hframe'
  · cases hframe.symm.trans hhunt
  · cases hcomplete.symm.trans hpart

/-! ## Bytes, idle lines and gaps -/

theorem linkByteReceived_takes (hr : s.receiving = true) (b : Byte) :
    exec (.linkByteReceived b) s = .next (s.setLink (s.link.take b)) := congrArg Host.Outcome.next (if_pos hr)

theorem lineIdleArmed_arms (hr : s.receiving = true) (hk : s.link.receiver = .hunt) :
    exec .lineIdleArmed s = .next { s with link := { s.link with receiver := .armed } } :=
  congrArg Host.Outcome.next (if_pos (by simp [hr, hk]))

theorem frameOverrunDiscard_takes {b : Byte} (hr : s.receiving = true) (hk : s.link.receiver = .frame)
    (hb : overruns s.link.buffer b = true) :
    exec (.frameOverrunDiscard b) s = .next (s.setLink (s.link.take b)) :=
  congrArg Host.Outcome.next (if_pos (by simp [hr, hk, hb]))

theorem frameGapTimeout_discards (hr : s.receiving = true) (hk : s.link.receiver = .frame)
    (hc : frameComplete s.link.buffer = false) :
    exec .frameGapTimeout s = .next { s with
      link := { s.link with receiver := .armed, buffer := [] }
      notices := { s.notices with flags := s.notices.flags ||| 0x100#12 } } :=
  congrArg Host.Outcome.next (if_pos (by simp [hr, hk, hc]))

/-- While a reply is sent no byte is taken, and the line is not watched (10 R167). -/
theorem exec_of_sending {r : Reply} (h : s.link.reply = .sending r) (b : Byte) :
    exec (.linkByteReceived b) s = .next s ∧ exec .lineIdleArmed s = .next s ∧
    exec .frameGapTimeout s = .next s := by
  have deaf : s.receiving = false := State.receiving_of_sending h
  exact ⟨congrArg Host.Outcome.next (if_neg (by simp [deaf])), congrArg Host.Outcome.next (if_neg (by simp [deaf])),
    congrArg Host.Outcome.next (if_neg (by simp [deaf]))⟩

/-! ## Judged frames that are no request -/

theorem frameCrcDiscard_flags (h : s.hears .frameCrcDiscard = true) :
    exec .frameCrcDiscard s =
      .next { s.afterFrame with notices := { s.notices with flags := s.notices.flags ||| 0x100#12 } } :=
  congrArg Host.Outcome.next (if_pos h)

theorem foreignFrame_ignored (h : s.hears .foreignFrame = true) : exec .foreignFrame s = .next s.afterFrame :=
  congrArg Host.Outcome.next (if_pos h)

theorem broadcastIgnored_ignored (h : s.hears .broadcastIgnored = true) :
    exec .broadcastIgnored s = .next s.afterFrame := congrArg Host.Outcome.next (if_pos h)

theorem unknownKind_answered {kind : Byte} (h : s.hears (.unknownKind kind) = true)
    (hk : requestOf .unicast kind [] = none) : exec (.unknownKind kind) s = .next (s.afterReply kind [14#8]) :=
  congrArg Host.Outcome.next (if_pos (by simp [h, hk]))

/-- A judgement that the part does not hear has no effect. -/
theorem exec_judged_unheard (h : ∀ i, s.hears i = false) :
    exec .frameCrcDiscard s = .next s ∧ exec .foreignFrame s = .next s ∧ exec .broadcastIgnored s = .next s ∧
    ∀ kind, exec (.unknownKind kind) s = .next s :=
  ⟨congrArg Host.Outcome.next (if_neg (by simp [h])), congrArg Host.Outcome.next (if_neg (by simp [h])),
    congrArg Host.Outcome.next (if_neg (by simp [h])), fun _ => congrArg Host.Outcome.next (if_neg (by simp [h]))⟩

/-! ## The reply begun, sent and abandoned -/

section Replies

variable {r : Reply}

theorem replyBegin_sends (h : s.link.reply = .awaiting r) (hp : s.phase = .running) :
    exec .replyBegin s = .next { s with link := { s.link with reply := .sending r } } := by
  have running : s.running = true := decide_eq_true hp
  show execReplyBegin s = _
  simp only [execReplyBegin, h, if_pos running]
  rfl

theorem replySent_hunts (h : s.link.reply = .sending r) :
    exec .replySent s =
      .next { s with link := { s.link with receiver := .hunt, buffer := [], reply := .none } } := by
  show execReplySent s = _
  simp only [execReplySent, h]
  rfl

theorem replyAbandoned_takes (h : s.link.reply = .awaiting r) (hp : s.phase = .running) (b : Byte) :
    exec (.replyAbandoned b) s = .next (s.setLink (s.link.take b)) := by
  have receiving : s.receiving = true := State.receiving_eq_true hp (by simp [h])
  show execReplyAbandoned b s = _
  simp only [execReplyAbandoned, h, receiving, if_true]

end Replies

/-! ## Requests whose length does not fit -/

section Length

variable {i : Instr} {dest : Dest} {kind : Byte} {p : List Byte} {rule : State → Served}

/-- Every request is its rule served at its destination, kind and payload (10 R169, R170). -/
theorem exec_eq_serveTo (hi : requestParts i = some (dest, kind, p)) :
    ∃ rule, ∀ s, exec i s = serveTo dest i kind p s rule := by
  cases i <;> cases hi <;> exact ⟨_, fun _ => rfl⟩

theorem serveTo_of_unheard (hh : s.hears i = false) : serveTo dest i kind p s rule = .next s := by
  cases dest <;> exact if_neg (by simp [hh])

theorem serveTo_of_misfit (hh : s.hears i = true) (hf : fitsKind kind p = false) :
    serveTo dest i kind p s rule = .next (match dest with
      | .unicast => s.afterReply kind [15#8]
      | .broadcast => s.afterFrame) := by
  cases dest <;> exact (if_pos hh).trans (if_neg (by simp [hf]))

end Length

end Sys2Proof.Machine

namespace Sys2Proof.Proofs

open Sys2Proof.Machine

/-- Settles O6: each byte as `LinkUnit.take` takes it in the receiver's state, then the idle line and the gap. -/
theorem receiverFollowsLine : Obligations.ReceiverFollowsLine := by
  refine ⟨fun b s hp hr => ?_, fun b s r h => exec_of_sending h b⟩
  have receiving := State.receiving_eq_true hp hr
  have taken := linkByteReceived_takes receiving b
  refine ⟨fun hk => ⟨?_, lineIdleArmed_arms receiving hk⟩, fun hk hb => ?_, fun hk hb => ?_, fun hk hover => ?_,
    fun hk hpart hlen => ?_, fun hk hpart => frameGapTimeout_discards receiving hk hpart⟩
  · rw [taken, LinkUnit.take_of_hunt hk]
    rfl
  · subst hb
    rw [taken, LinkUnit.take_start hk]
    rfl
  · rw [taken, LinkUnit.take_no_start hk hb]
    rfl
  · have tooLong := overruns_iff.mpr hover
    rw [taken, frameOverrunDiscard_takes receiving hk tooLong, LinkUnit.take_overruns hk tooLong]
    exact ⟨rfl, rfl⟩
  · have fits : overruns s.link.buffer b = false :=
      Bool.eq_false_iff.mpr fun h => (overruns_iff.mp h).elim (by simp [hpart]) hlen
    rw [taken, LinkUnit.take_joins hk fits]
    rfl

/-- Settles O7: each judgement where it is heard, and none of them where the receiver takes no frame. -/
theorem judgedFramesAnswered : Obligations.JudgedFramesAnswered :=
  fun _ => ⟨frameCrcDiscard_flags, foreignFrame_ignored, broadcastIgnored_ignored, fun _ => unknownKind_answered,
    fun h => exec_judged_unheard (State.hears_eq_false_of_receiver h)⟩

/-- Settles O8: the byte that abandons a reply is taken as any other byte of an armed receiver. -/
theorem repliesBeginAndEnd : Obligations.RepliesBeginAndEnd := by
  intro s r
  refine ⟨fun h hp => ⟨replyBegin_sends h hp, fun hk b => ?_⟩, replySent_hunts⟩
  rw [replyAbandoned_takes h hp b]
  by_cases hb : b = 0xA5#8
  · subst hb
    rw [LinkUnit.take_start hk]
    rfl
  · rw [LinkUnit.take_no_start hk hb, if_neg hb, if_neg hb]
    rfl

/-- Settles O9: every request is served, so that what is unheard or does not fit ends before its rule. -/
theorem wrongLengthIsRefused : Obligations.WrongLengthIsRefused := by
  intro i dest kind p s hi
  obtain ⟨rule, served⟩ := exec_eq_serveTo hi
  rw [served]
  exact ⟨fun h => State.hears_eq_false_of_receiver h i, serveTo_of_unheard, serveTo_of_misfit⟩

end Sys2Proof.Proofs
end

section
/-! # The Notice Queue, the queries and the link's own settings (10 R173 to R179, R181) -/

namespace Sys2Proof.Machine

/-! ## An event at the queue (10 R173) -/

namespace NoticeUnit

variable {q : NoticeUnit} {mask : BitVec 8} {n : Notice}

/-- QUEUE_OVERFLOW is the flag of no notice. -/
theorem queueOverflow_ne_flag (n : Notice) : EventFlag.queueOverflow ≠ n.flag := by cases n <;> nofun

theorem push_masked (q : NoticeUnit) (h : mask.getLsbD n.flag.bit = false) : q.push mask n = q.setFlag n.flag := by
  rcases q.push_cases mask n with ⟨-, e⟩ | ⟨h', -⟩ | ⟨h', -⟩
  · exact e
  all_goals cases h.symm.trans h'

theorem push_queued (h : mask.getLsbD n.flag.bit = true) (hlen : q.queue.length < 32) :
    q.push mask n = { q.setFlag n.flag with
      queue := q.queue ++ [(q.nextNumber, n)], nextNumber := q.nextNumber + 1#8 } := by
  rcases q.push_cases mask n with ⟨h', -⟩ | ⟨-, -, e⟩ | ⟨-, hlen', -⟩
  · cases h.symm.trans h'
  · exact e
  · omega

theorem push_dropped (h : mask.getLsbD n.flag.bit = true) (hlen : 32 ≤ q.queue.length) :
    q.push mask n = ({ q.setFlag n.flag with overflow := true }).setFlag .queueOverflow := by
  rcases q.push_cases mask n with ⟨h', -⟩ | ⟨-, hlen', -⟩ | ⟨-, -, e⟩
  · cases h.symm.trans h'
  · omega
  · exact e

theorem queueOverflow_setFlag (q : NoticeUnit) (n : Notice) :
    (q.setFlag n.flag).hasFlag .queueOverflow = q.hasFlag .queueOverflow :=
  q.hasFlag_setFlag_other (queueOverflow_ne_flag n)

end NoticeUnit

/-! ## The queries (10 R175, R178, R179) -/

section Queries

variable {s : State}

theorem identify_answers (hh : s.hears (.identify []) = true) :
    exec (.identify []) s = .next (s.afterReply 0x01#8
      [0#8, 0x3B#8, 0x01#8, s.link.address, byte s.link.rate.toNat, 4#8, 40#8, 16#8, 8#8]) :=
  (serve_eq_afterReply hh rfl rfl : execIdentify [] s = _)

theorem status_answers (hh : s.hears (.status []) = true) :
    exec (.status []) s = .next (s.afterReply 0x02#8 (statusBytes s)) :=
  (serve_eq_afterReply hh rfl rfl : execStatus [] s = _)

/-- The status byte of the three indicators, bit by bit (11 section 11.5). -/
theorem indicatorBits (a b c : Bool) :
    boolCode a + 2 * boolCode b + 4 * boolCode c =
      (if a then 1 else 0) + (if b then 2 else 0) + (if c then 4 else 0) := by
  cases a <;> cases b <;> cases c <;> rfl

theorem fetchNotice_takes {n : Byte} {x : Notice} {rest : List (Byte × Notice)}
    (hh : s.hears (.fetchNotice []) = true) (hq : s.notices.queue = (n, x) :: rest) :
    exec (.fetchNotice []) s =
      .next ({ s with notices := { s.notices with queue := rest, overflow := false } }.afterReply 0x05#8
        ([0#8, byte (boolCode s.notices.overflow), byte rest.length, n, byte x.kindCode, byte x.body.length] ++
          x.body)) := by
  refine (serve_eq_rule hh rfl : execFetchNotice [] s = _).trans ?_
  simp only [State.frameTaken_notices, hq]
  rfl

theorem fetchNotice_empty (hh : s.hears (.fetchNotice []) = true) (hq : s.notices.queue = []) :
    exec (.fetchNotice []) s =
      .next ({ s with notices := { s.notices with overflow := false } }.afterReply 0x05#8
        [11#8, byte (boolCode s.notices.overflow), 0#8]) := by
  refine (serve_eq_rule hh rfl : execFetchNotice [] s = _).trans ?_
  simp only [State.frameTaken_notices, hq]
  rfl

end Queries

/-! ## CLEAR FLAGS, SET NOTICE MASK and SET RETURN SIZE (10 R176, R177, R181) -/

section Settings

variable {s : State}

theorem clearFlags_clears {hi lo : Byte} (hh : s.hears (.clearFlags [hi, lo]) = true) (hhi : hi.toNat < 16) :
    let flags := s.notices.flags &&& ~~~(BitVec.ofNat 12 (hi.toNat * 256 + lo.toNat))
    exec (.clearFlags [hi, lo]) s =
      .next ({ s with notices := { s.notices with flags := flags } }.afterReply 0x03#8
        [0#8, byte (flags.toNat / 256), byte flags.toNat]) := by
  have inRange : ¬4096 ≤ wordAt [hi, lo] 0 := by
    have : wordAt [hi, lo] 0 = hi.toNat * 256 + lo.toNat := rfl
    have := lo.isLt
    omega
  exact (serve_eq_answer hh rfl (if_neg inRange) : execClearFlags [hi, lo] s = _)

theorem clearFlags_out_of_range {hi lo : Byte} (hh : s.hears (.clearFlags [hi, lo]) = true) (hhi : 16 ≤ hi.toNat) :
    exec (.clearFlags [hi, lo]) s = .next (s.afterReply 0x03#8 [5#8]) := by
  have beyond : 4096 ≤ wordAt [hi, lo] 0 := by
    have : wordAt [hi, lo] 0 = hi.toNat * 256 + lo.toNat := rfl
    omega
  exact (serve_eq_afterReply hh rfl (if_pos beyond) : execClearFlags [hi, lo] s = _)

theorem setNoticeMask_sets {m : Byte} (hm : s.mode.mode ≠ .starting) (hb : ¬s.storing)
    (hh : s.hears (.setNoticeMask [m]) = true) :
    exec (.setNoticeMask [m]) s =
      .next ({ s with settings := { s.settings with noticeMask := m } }.afterReply 0x04#8 [0#8, m]) := by
  refine (serve_eq_rule hh rfl : execSetNoticeMask [m] s = _).trans ?_
  simp only [State.frameTaken_starting, State.starting_eq_false hm, State.frameTaken_store,
    State.store_busy_eq_false hb, show BitVec.ofNat 8 (byteAt [m] 0) = m from byte_toNat m]
  rfl

/-- The size is brought into 1 to 8, and CLAMPED where that changed it (10 R181). -/
theorem setReturnSize_sets {m : Byte} (hm : s.mode.mode ≠ .starting) (hb : ¬s.storing)
    (hh : s.hears (.setReturnSize [m]) = true) :
    exec (.setReturnSize [m]) s =
      .next ({ s with settings := { s.settings with returnSize := clamp 1 8 m.toNat } }.afterReply 0x45#8
        [if clamp 1 8 m.toNat = m.toNat then 0#8 else 1#8, byte (clamp 1 8 m.toNat)]) := by
  have status : alone (if clamp 1 8 m.toNat = m.toNat then .ok else .clamped) =
      [if clamp 1 8 m.toNat = m.toNat then 0#8 else 1#8] := by split <;> rfl
  refine (serve_eq_rule hh rfl : execSetReturnSize [m] s = _).trans ?_
  simp only [State.frameTaken_starting, State.starting_eq_false hm, State.frameTaken_store,
    State.store_busy_eq_false hb, show byteAt [m] 0 = m.toNat from rfl, status]
  rfl

end Settings

end Sys2Proof.Machine

namespace Sys2Proof.Proofs

open Sys2Proof.Machine

/-- Settles O13: the notice is masked, queued or dropped, and QUEUE_OVERFLOW is set with the drop alone. -/
theorem noticeQueueTakesEvents : Obligations.NoticeQueueTakesEvents := by
  intro q mask n
  refine ⟨q.hasFlag_push_self mask n, fun f h => NoticeUnit.hasFlag_push_of_hasFlag h mask n,
    fun f hn ho => q.hasFlag_push_other mask hn ho, fun h => ?_, fun h hlen => ?_, fun h hlen => ?_⟩
  · rw [q.push_masked h]
    exact ⟨rfl, rfl, rfl, q.queueOverflow_setFlag n⟩
  · rw [NoticeUnit.push_queued h hlen]
    exact ⟨rfl, rfl, rfl, q.queueOverflow_setFlag n⟩
  · rw [NoticeUnit.push_dropped h hlen]
    exact ⟨rfl, rfl, rfl, NoticeUnit.hasFlag_setFlag_self _ _⟩

/-- Settles O11, request by request. -/
theorem identifyStatusAndFetch : Obligations.IdentifyStatusAndFetch := by
  refine ⟨fun s hh => identify_answers hh, fun s hh => ?_,
    fun s hh => ⟨fun n x rest hq => fetchNotice_takes hh hq, fetchNotice_empty hh⟩⟩
  rw [status_answers hh, ← indicatorBits]
  rfl

/-- Settles O12, request by request; the three clauses of a size are those of its clamp. -/
theorem flagMaskAndSizeRequests : Obligations.FlagMaskAndSizeRequests := by
  refine ⟨fun hi lo s hh => ⟨fun hhi => ⟨_, fun n hn => ?_, clearFlags_clears hh hhi⟩, clearFlags_out_of_range hh⟩,
    fun m s hm hb => ⟨setNoticeMask_sets hm hb, fun hh => ?_⟩⟩
  · rw [BitVec.getLsbD_and, BitVec.getLsbD_not, BitVec.getLsbD_ofNat]
    simp [hn]
  · have sized := setReturnSize_sets hm hb hh
    refine ⟨fun hin => ?_, fun h0 => ?_, fun h8 => ?_⟩
    · rw [sized, clamp_eq_self hin, if_pos rfl, byte_toNat]
    · rw [sized, h0]
      rfl
    · have clamped : clamp 1 8 m.toNat = 8 := by
        rw [clamp, if_neg (by omega), if_pos h8]
      rw [sized, clamped, if_neg (by omega)]
      rfl

end Sys2Proof.Proofs
end

section
/-! # The window reads (10 R180 to R182) -/

namespace Sys2Proof.Machine

/-! ## The slots of a window, in order -/

section Slots

variable (w : Window)

theorem Window.mem_positions {q : Nat} : q ∈ w.positions ↔ w.firstPos ≤ q ∧ q ≤ w.lastPos := by
  simp only [Window.positions, List.mem_map, List.mem_range]
  constructor
  · rintro ⟨k, hk, rfl⟩
    omega
  · rintro ⟨hfirst, hlast⟩
    exact ⟨q - w.firstPos, by omega, by omega⟩

theorem Window.mem_lanes {l : Lane} : l ∈ w.lanes ↔ w.firstLane ≤ l.number ∧ l.number ≤ w.lastLane := by
  simp [Window.lanes, Lane.mem_all]

theorem Window.positions_pairwise : w.positions.Pairwise (· < ·) :=
  List.pairwise_map.mpr (List.pairwise_lt_range.imp fun h => Nat.add_lt_add_left h w.firstPos)

theorem Window.lanes_pairwise : w.lanes.Pairwise fun l l' => l.number < l'.number :=
  List.Pairwise.filter _ (by decide)

/-- The entries of a snapshot stand position-ascending and lane-ascending. -/
theorem State.windowSnapshot_pairwise (s : State) :
    s.windowSnapshot.entries.Pairwise fun e e' =>
      e.position < e'.position ∨ (e.position = e'.position ∧ e.lane.number < e'.lane.number) := by
  refine List.pairwise_map.mpr (List.pairwise_flatMap.mpr ⟨fun q _ => ?_, ?_⟩)
  · exact List.pairwise_map.mpr ((Window.lanes_pairwise _).imp fun h => .inr ⟨rfl, h⟩)
  · refine (Window.positions_pairwise _).imp fun hlt x hx y hy => ?_
    obtain ⟨-, -, rfl⟩ := List.mem_map.mp hx
    obtain ⟨-, -, rfl⟩ := List.mem_map.mp hy
    exact .inl hlt

/-- The entries of a snapshot are the window's slots as they stand. -/
theorem State.mem_windowSnapshot (s : State) (e : WindowEntry) :
    e ∈ s.windowSnapshot.entries ↔
      s.track.window.firstPos ≤ e.position ∧ e.position ≤ s.track.window.lastPos ∧
      s.track.window.firstLane ≤ e.lane.number ∧ e.lane.number ≤ s.track.window.lastLane ∧
      e.slot = slotAt s.track.rows e.position e.lane := by
  simp only [State.windowSnapshot, Window.slots, List.mem_map, List.mem_flatMap]
  constructor
  · rintro ⟨x, ⟨q, hq, l, hl, rfl⟩, rfl⟩
    obtain ⟨hq1, hq2⟩ := (Window.mem_positions _).mp hq
    obtain ⟨hl1, hl2⟩ := (Window.mem_lanes _).mp hl
    exact ⟨hq1, hq2, hl1, hl2, rfl⟩
  · rintro ⟨hq1, hq2, hl1, hl2, hslot⟩
    refine ⟨(e.position, e.lane), ⟨e.position, (Window.mem_positions _).mpr ⟨hq1, hq2⟩, e.lane,
      (Window.mem_lanes _).mpr ⟨hl1, hl2⟩, rfl⟩, ?_⟩
    rw [← hslot]

end Slots

/-! ## The three requests -/

section Requests

variable {s : State} {w : WindowSnapshot}

/-- A request answered with the next chunk of a snapshot, which stays with its cursor past it (10 R181). -/
def State.chunkSent (s : State) (kind : Byte) (w : WindowSnapshot) : State :=
  (chunkOf s.frameTaken w).1.answer kind (chunkOf s.frameTaken w).2

theorem readWindow_sends (hm : s.mode.mode ≠ .starting) (hh : s.hears (.readWindow []) = true) :
    exec (.readWindow []) s = .next (s.chunkSent 0x42#8 s.windowSnapshot) := by
  refine (serve_eq_rule hh rfl : execReadWindow [] s = _).trans ?_
  simp only [State.frameTaken_starting, State.starting_eq_false hm]
  rfl

theorem nextChunk_sends (hm : s.mode.mode ≠ .starting) (hh : s.hears (.nextChunk []) = true)
    (hw : s.link.window = some w) (hc : w.cursor < w.entries.length) :
    exec (.nextChunk []) s = .next (s.chunkSent 0x43#8 w) := by
  have held : s.frameTaken.link.window = some w := hw
  refine (serve_eq_rule hh rfl : execNextChunk [] s = _).trans ?_
  simp only [State.frameTaken_starting, State.starting_eq_false hm, held, if_pos hc]
  rfl

/-- NEXT without an OPEN snapshot: none is held, or its last chunk was sent (10 R181). -/
theorem nextChunk_empty (hm : s.mode.mode ≠ .starting) (hh : s.hears (.nextChunk []) = true)
    (hw : ∀ w, s.link.window = some w → w.entries.length ≤ w.cursor) :
    exec (.nextChunk []) s = .next (s.afterReply 0x43#8 [11#8, 0#8]) := by
  refine (serve_eq_afterReply hh rfl ?_ : execNextChunk [] s = _)
  simp only [State.frameTaken_starting, State.starting_eq_false hm]
  cases held : s.frameTaken.link.window with
  | none => rfl
  | some w =>
    have done : ¬w.cursor < w.entries.length := Nat.not_lt.mpr (hw w held)
    simp only [if_neg done]
    rfl

theorem abort_discards (hm : s.mode.mode ≠ .starting) (hh : s.hears (.abort []) = true)
    (hw : s.link.window = some w) :
    exec (.abort []) s =
      .next ({ s with link := { s.link with window := none } }.afterReply 0x44#8
        [0#8, byte (w.entries.length - w.cursor)]) := by
  have held : s.frameTaken.link.window = some w := hw
  refine (serve_eq_rule hh rfl : execAbort [] s = _).trans ?_
  simp only [State.frameTaken_starting, State.starting_eq_false hm, held]
  rfl

theorem abort_already (hm : s.mode.mode ≠ .starting) (hh : s.hears (.abort []) = true) (hw : s.link.window = none) :
    exec (.abort []) s = .next (s.afterReply 0x44#8 [2#8]) := by
  have held : s.frameTaken.link.window = none := hw
  refine (serve_eq_afterReply hh rfl ?_ : execAbort [] s = _)
  simp only [State.frameTaken_starting, State.starting_eq_false hm, held]
  rfl

end Requests

end Sys2Proof.Machine

namespace Sys2Proof.Proofs

open Sys2Proof.Machine

/-- Settles O33: the statement's chunk is what `State.chunkSent` unfolds to, and the snapshot holds the window's slots
in order. -/
theorem windowReads : Obligations.WindowReads := by
  intro s hm
  refine ⟨fun hh => ?_, fun hh => ⟨fun w hw hc => ?_, nextChunk_empty hm hh⟩,
    fun hh => ⟨fun w hw => abort_discards hm hh hw, abort_already hm hh⟩⟩
  · exact ⟨s.windowSnapshot, readWindow_sends hm hh, rfl, rfl, s.mem_windowSnapshot, s.windowSnapshot_pairwise⟩
  · exact nextChunk_sends hm hh hw hc

end Sys2Proof.Proofs
end

section
/-! # Every command completes, and a step takes the front command off the queue

Only a step takes a command off the queue: no operation of the part touches the waiting commands. The lemmas say so
operation by operation, up to `exec_completes`. -/

namespace Sys2Proof.Machine

/-! ## Operations leave the waiting commands -/

namespace State

/-- Operations taken in turn leave the waiting commands where each of them does. -/
theorem foldl_pending {α : Type} {f : State → α → State} (hf : ∀ t x, (f t x).pending = t.pending) (xs : List α)
    (s : State) : (xs.foldl f s).pending = s.pending :=
  List.foldlRecOn (motive := fun t => t.pending = s.pending) xs f rfl fun t ht x _ => (hf t x).trans ht

variable (s : State)

/-! ### The index, the press and the zones (02, 04, 05, 06) -/

@[simp] theorem trackIndex_pending : s.trackIndex.pending = s.pending := by
  unfold trackIndex
  split <;> simp [advance_frame]

@[simp] theorem judgeEdge_pending : s.judgeEdge.pending = s.pending := by
  rw [judgeEdge_eq]
  rfl

@[simp] theorem pressIndex_pending : s.pressIndex.pending = s.pending := by
  have abandoned : s.abandonSettle.pending = s.pending := rfl
  unfold pressIndex
  split
  case h_1 => split <;> rfl
  all_goals simp [haltRequest_frame, terminate_frame, abandoned]

@[simp] theorem handIndex_pending : s.handIndex.pending = s.pending := by
  unfold handIndex
  dsimp only
  split <;> simp

@[simp] theorem indexEdge_pending : s.indexEdge.pending = s.pending := by
  unfold indexEdge
  split <;> simp

@[simp] theorem warnShows_pending (level : Bool) : (s.warnShows level).pending = s.pending := by
  have pressed (t : State) : t.warnPress.pending = t.pending := by
    unfold warnPress
    split
    case h_2 | h_3 => simp only [terminate_frame]
    all_goals rfl
  unfold warnShows
  dsimp only
  split
  · split <;> simp [pressed]
  · rfl

@[simp] theorem switchesShow_pending (w : Switches) : (s.switchesShow w).pending = s.pending := by
  unfold switchesShow
  dsimp only
  (repeat' split) <;> rfl

@[simp] theorem beginStroke_pending : s.beginStroke.pending = s.pending := by
  have written := foldl_pending (f := writePressing) fun t n => by simp only [writePressing_frame]
  unfold beginStroke enterDwell
  dsimp only
  split <;> simp [written]

@[simp] theorem closeTimedOut_pending : s.closeTimedOut.pending = s.pending := by
  unfold closeTimedOut
  dsimp only
  split <;> simp [haltRequest_frame, terminate_frame]

@[simp] theorem sampleZones_pending (codes : Quad (BitVec 12)) (px : BitVec 10) :
    (s.sampleZones codes px).pending = s.pending :=
  foldl_pending raise_pending _ _

@[simp] theorem strokeTick_pending (codes : Quad (BitVec 12)) (px : BitVec 10) :
    (s.strokeTick codes px).pending = s.pending := by
  unfold strokeTick testSample
  dsimp only
  (repeat' split) <;> simp [terminate_frame]

/-! ### The settings and the grades (01, 07) -/

@[simp] theorem installSettings_pending (st : Settings) : (s.installSettings st).pending = s.pending := by
  unfold installSettings
  dsimp only
  simp only [restoreIdleIfDue_frame]
  split <;> simp [periodChange_frame]

@[simp] theorem writeRecipe_pending (n : Fin 16) (r : Recipe) : (s.writeRecipe n r).pending = s.pending := by
  unfold writeRecipe
  dsimp only
  split <;> simp [handGrade_frame]

@[simp] theorem advertise_pending (mask : GradeSet) : (s.advertise mask).pending = s.pending := by
  unfold advertise conflictEvent
  dsimp only
  split <;> simp [recomputeRestoring_frame]

@[simp] theorem giveRestoreIdle_pending : s.giveRestoreIdle.pending = s.pending := by
  simp [giveRestoreIdle, restore_frame]

/-! ### The modes and the resets (09) -/

@[simp] theorem judgePrime_pending : s.judgePrime.pending = s.pending := by
  unfold judgePrime
  (repeat' split) <;> rfl

@[simp] theorem stopLine_pending : s.stopLine.pending = s.pending := by
  simp [stopLine, restore_frame, terminateAny_frame]

@[simp] theorem stopPrime_pending : s.stopPrime.pending = s.pending := by
  simp [stopPrime, restore_frame]

@[simp] theorem softReset_pending : s.softReset.pending = s.pending := by
  simp [softReset, terminateAny_frame]

@[simp] theorem assertReset_pending : s.assertReset.pending = s.pending := by simp [assertReset]

@[simp] theorem losePower_pending : s.losePower.pending = s.pending := by simp [losePower, clearCounts]

@[simp] theorem finishLoad_pending (k : ResetKind) (a : BitVec 5) (r : BitVec 2) :
    (s.finishLoad k a r).pending = s.pending := by
  rw [finishLoad_eq]
  cases k <;> rfl

end State

/-! ## Commands complete -/

/-- The outcome of a whole command in `s`: a next state, with the waiting commands of `s`. -/
def State.completesTo (s : State) (o : Out) : Prop := ∃ t, o = .next t ∧ t.pending = s.pending

variable {s : State}

theorem next_completes {t : State} (h : t.pending = s.pending) : s.completesTo (.next t) := ⟨t, rfl, h⟩

/-- A request completes whose rule leaves the waiting commands: heard or not, and whatever its length. -/
theorem serve_completes {i : Instr} {kind : Byte} {p : List Byte} {rule : State → Served}
    (hr : (rule s.frameTaken).1.pending = s.pending) : s.completesTo (serve i kind p s rule) := by
  rcases serve_cases i kind p s rule with ⟨-, e⟩ | ⟨-, -, e⟩ | ⟨-, -, e⟩ <;> rw [e]
  · exact next_completes rfl
  · exact next_completes rfl
  · exact next_completes hr

/-- The same of a request that may be broadcast. -/
theorem serveTo_completes {dest : Dest} {i : Instr} {kind : Byte} {p : List Byte} {rule : State → Served}
    (hr : (rule s.frameTaken).1.pending = s.pending) : s.completesTo (serveTo dest i kind p s rule) := by
  rcases serveTo_cases dest i kind p s rule with ⟨-, e⟩ | ⟨-, -, e⟩ | ⟨-, -, -, e⟩ | ⟨-, -, -, e⟩ <;> rw [e]
  · exact serve_completes hr
  · exact next_completes rfl
  · exact next_completes rfl
  · exact next_completes hr

theorem takeTrackRequest_completes (r : TrackRequest) (s : State) : s.completesTo (takeTrackRequest r s) := by
  obtain ⟨t, ht, e, -⟩ := takeTrackRequest_frame r s
  exact ⟨t, ht, (congrArg State.pending e :)⟩

/-- An index event completes, also where a request is taken within it: that request completes, and the press answers
after it. -/
theorem execIndexEvent_completes (edge : IndexEdge) (s : State) : s.completesTo (execIndexEvent edge s) := by
  unfold execIndexEvent
  dsimp only
  split
  · exact next_completes (by simp)
  · next r _ =>
    split
    · obtain ⟨u, hu, e⟩ := takeTrackRequest_completes r (s.elapse edge.after).judgeEdge.restartStall.trackIndex
      rw [hu]
      exact next_completes (by simp [e])
    · exact takeTrackRequest_completes r (s.elapse edge.after)

/-- Every request completes. -/
theorem exec_request_completes {i : Instr} {parts : Dest × Byte × List Byte} (hi : requestParts i = some parts)
    (s : State) : s.completesTo (exec i s) := by
  cases i with
  | identify | status | clearFlags | setNoticeMask | fetchNotice | readLine | readRecipe | readRule | setWindow
  | nextChunk | abort | setReturnSize | readCounts | clearCounts | storeSettings =>
    dsimp only [exec, execIdentify, execStatus, execClearFlags, execSetNoticeMask, execFetchNotice, execReadLine,
      execReadRecipe, execReadRule, execSetWindow, execNextChunk, execAbort, execSetReturnSize, execReadCounts,
      execClearCounts, execStoreSettings]
    refine serve_completes ?_
    repeat' split
    all_goals rfl
  | configureLine p =>
    refine (serve_completes ?_ : s.completesTo (execConfigureLine p s))
    rcases configureLineRule_cases p s.frameTaken with e | ⟨-, e⟩ <;> simp [e]
  | writeRecipe p =>
    refine (serve_completes ?_ : s.completesTo (execWriteRecipe p s))
    rcases writeRecipeRule_cases p s.frameTaken with e | ⟨-, n, e⟩ <;> simp [e]
  | assignRecipe p =>
    refine (serve_completes ?_ : s.completesTo (execAssignRecipe p s))
    unfold assignRecipeRule
    split
    · iterate 4
        split
        · rfl
      simp only [State.recomputeRestoring_frame]
      rfl
    all_goals rfl
  | writeRule p =>
    refine (serve_completes ?_ : s.completesTo (execWriteRule p s))
    unfold writeRuleRule
    repeat' split
    all_goals rfl
  | recallSettings p =>
    refine (serve_completes ?_ : s.completesTo (execRecallSettings p s))
    iterate 3
      split
      · rfl
    split
    · rfl
    · exact State.installSettings_pending _ _
  | advertiseGrades p =>
    refine (serve_completes ?_ : s.completesTo (execAdvertiseGrades p s))
    iterate 2
      split
      · rfl
    exact State.advertise_pending _ _
  | restoreGrade p =>
    refine (serve_completes ?_ : s.completesTo (execRestoreGrade p s))
    split
    · rfl
    · simp [State.restore_frame]
  | start p =>
    refine (serve_completes ?_ : s.completesTo (execStart p s))
    unfold startIdle
    repeat' split
    all_goals rfl
  | stop dest p =>
    refine (serveTo_completes ?_ : s.completesTo (execStop dest p s))
    split
    · rfl
    · exact State.stopPrime_pending _
    · exact State.stopLine_pending _
    · exact State.stopLine_pending _
  | resume p =>
    refine (serve_completes ?_ : s.completesTo (execResume p s))
    repeat' split
    all_goals rfl
  | softReset dest p =>
    refine (serveTo_completes ?_ : s.completesTo (execSoftReset dest p s))
    iterate 2
      split
      · rfl
    exact State.softReset_pending _
  | latchCounts dest p =>
    refine (serveTo_completes ?_ : s.completesTo (execLatchCounts dest p s))
    repeat' split
    all_goals rfl
  | reportFill p => exact takeTrackRequest_completes (.reportFill p) s
  | reportPlace p => exact takeTrackRequest_completes (.reportPlace p) s
  | reportVision p => exact takeTrackRequest_completes (.reportVision p) s
  | lookup p => exact takeTrackRequest_completes (.lookup p) s
  | markCard p => exact takeTrackRequest_completes (.markCard p) s
  | markWindow p => exact takeTrackRequest_completes (.markWindow p) s
  | readWindow p => exact takeTrackRequest_completes (.readWindow p) s
  | _ => cases hi

/-- Every command completes. -/
theorem exec_completes (i : Instr) (s : State) : s.completesTo (exec i s) := by
  cases hreq : requestParts i with
  | some parts => exact exec_request_completes hreq s
  | none =>
    cases i with
    | indexEvent edge => exact execIndexEvent_completes edge s
    | warnEdge after level => exact next_completes (by simp)
    | closedConfirmation after sw | openConfirmation after sw => exact next_completes (by simp)
    | settleExpiry =>
      refine next_completes ?_
      dsimp only
      repeat' split
      case h_1.isTrue.isTrue => simp
      all_goals rfl
    | closeTimeout | primeEnd | restoreIdleSignal =>
      refine next_completes ?_
      repeat' split
      case h_1.isTrue => simp
      all_goals rfl
    | openTimeout =>
      refine next_completes ?_
      dsimp only
      repeat' split
      case h_1.isTrue => simp [State.haltRequest_frame]
      all_goals rfl
    | predictedDeadline =>
      refine next_completes ?_
      repeat' split
      case h_1.isTrue => simp [State.terminateAny_frame]
      all_goals rfl
    | samplingTick codes px =>
      refine next_completes ?_
      split <;> simp
    | powerOn | powerLoss => exact next_completes (by simp)
    | pinReset =>
      refine next_completes ?_
      split <;> simp
    | settingsLoad address rate =>
      refine next_completes ?_
      split
      · exact s.finishLoad_pending _ address rate
      all_goals rfl
    | unknownKind | frameCrcDiscard | foreignFrame | broadcastIgnored | frameOverrunDiscard | lineIdleArmed
    | frameGapTimeout | linkByteReceived | replyAbandoned | replySent | replyBegin | flapDue | flapPulseEnd | stall
    | storeComplete | resetRelease =>
      refine next_completes ?_
      repeat' split
      all_goals rfl
    | _ => cases hreq

/-! ## A step (assumption 1) -/

theorem step_of_waiting {i : Instr} {rest : List Instr} (h : s.pending = i :: rest) :
    step s = exec i (s.setPending rest) := by
  rw [step, h]

theorem step_of_empty (h : s.pending = []) : step s = .next (s.setNow (s.now + 1)) := by
  rw [step, h]

end Sys2Proof.Machine

namespace Sys2Proof.Proofs

open Sys2Proof.Machine

/-- Settles O2, request by request and event by event. -/
theorem everyCommandCompletes : Obligations.EveryCommandCompletes := exec_completes

/-- Settles O1: the two cases of a step, by what waits in the queue. -/
theorem stepRunsFrontCommand : Obligations.StepRunsFrontCommand :=
  fun _ => ⟨fun _ _ h => step_of_waiting h, step_of_empty⟩

end Sys2Proof.Proofs
end
